-- ==== Sys2Proof/Word.lean ====
section
/-!
DEFINITION. The word types of the machine: the byte every access moves (R65) and the 16-bit address (R60).
-/

namespace Sys2Proof

/-- A byte, the `u8` of R8: registers, memory cells, operands. -/
abbrev Byte := BitVec 8

/-- A 16-bit CPU address, the `u16` of R8. -/
abbrev Addr := BitVec 16

end Sys2Proof
end

