-- ==== Sys2Proof/Machine/Bits.lean ====
section
/-!
DEFINITION. Bit fields, extensions and byte order (R8, R65): the helpers that decoding and the machine share.
-/

namespace Sys2Proof

/-- `w[15:8]`. -/
def hiByte (w : Addr) : Byte := w.extractLsb' 8 8

/-- `w[7:0]`. -/
def loByte (w : Addr) : Byte := w.extractLsb' 0 8

/-- `hi : lo`, the 16-bit value of two bytes (R8). -/
def wordOf (hi lo : Byte) : Addr := hi ++ lo

/-- `zext_16(b)` (R8). -/
def zext16 (b : Byte) : Addr := b.setWidth 16

/-- `sext_16(b)` (R8). -/
def sext16 (b : Byte) : Addr := b.signExtend 16

/-- The two addresses lie in different pages: bits 15:8 differ (R12, R150). -/
def pageDiffers (a b : Addr) : Bool := hiByte a != hiByte b

/-- Writes bit n of a byte, the other seven kept. -/
def setBit (v : Byte) (n : Nat) (b : Bool) : Byte :=
  if b then v ||| (1#8 <<< n) else v &&& ~~~(1#8 <<< n)

end Sys2Proof
end

