-- ==== Sys2Proof/WellFormed.lean ====
section
/-!
DEFINITION. Well-formed instructions. The spec's decode result is a mnemonic, a mode and 0 to 2 operand bytes (R33, R141);
its checks are R158's: the mnemonic's rule accepts the mode, the mode has at most two operand bytes, and the operand bytes
present are as many as the mode has. A constructor of `Instr` fixes its mnemonic and mode and carries operands of the exact
width, so the last check can fail on assembled forms only.
-/

namespace Sys2Proof

/-- `operandCount(mode)` (R141). -/
def Mode.operandCount : Mode → Nat
  | .implied | .accumulator => 0
  | .immediate | .zeroPage | .zeroPageX | .zeroPageY | .indexedIndirect | .indirectIndexed | .relative => 1
  | .absolute | .absoluteX | .absoluteY | .indirect => 2

/-- The modes each mnemonic's rule accepts: the rows of R156 (the "Encoding" of R170 to R303). -/
def Mnemonic.modes : Mnemonic → List Mode
  | .lda | .adc | .sbc | .and | .ora | .eor | .cmp =>
    [.immediate, .zeroPage, .zeroPageX, .absolute, .absoluteX, .absoluteY, .indexedIndirect, .indirectIndexed]
  | .ldx => [.immediate, .zeroPage, .zeroPageY, .absolute, .absoluteY]
  | .ldy => [.immediate, .zeroPage, .zeroPageX, .absolute, .absoluteX]
  | .sta => [.zeroPage, .zeroPageX, .absolute, .absoluteX, .absoluteY, .indexedIndirect, .indirectIndexed]
  | .stx => [.zeroPage, .zeroPageY, .absolute]
  | .sty => [.zeroPage, .zeroPageX, .absolute]
  | .tax | .tay | .txa | .tya | .tsx | .txs | .inx | .iny | .dex | .dey | .pha | .pla | .php | .plp
  | .clc | .sec | .cli | .sei | .clv | .cld | .sed | .nop | .rts | .brk | .rti =>
    [.implied]
  | .cpx | .cpy => [.immediate, .zeroPage, .absolute]
  | .bit => [.zeroPage, .absolute]
  | .inc | .dec => [.zeroPage, .zeroPageX, .absolute, .absoluteX]
  | .asl | .lsr | .rol | .ror => [.accumulator, .zeroPage, .zeroPageX, .absolute, .absoluteX]
  | .bcc | .bcs | .beq | .bne | .bmi | .bpl | .bvc | .bvs => [.relative]
  | .jmp => [.absolute, .indirect]
  | .jsr => [.absolute]

/-- An assembled form: a mnemonic, a mode and the operand bytes present (R33). -/
structure Raw where
  mnemonic : Mnemonic
  mode : Mode
  operands : List Byte
deriving DecidableEq, Repr

/-- The mnemonic's rule accepts the mode (R158). -/
def Raw.modeAccepted (r : Raw) : Bool := r.mnemonic.modes.contains r.mode

/-- Never more than 2 operand bytes (R140, R158). -/
def Raw.atMostTwo (r : Raw) : Bool := decide (r.operands.length ≤ 2)

/-- As many operand bytes as the mode has (R141, R158). -/
def Raw.countMatches (r : Raw) : Bool := decide (r.operands.length = r.mode.operandCount)

/-- A well-formed assembled form. -/
def Raw.wellFormed (r : Raw) : Bool := r.modeAccepted && r.atMostTwo && r.countMatches

/-- A well-formed instruction: its mnemonic's rule accepts its mode, and that mode has at most two operand bytes (R158). -/
def Instr.wellFormed (i : Instr) : Bool :=
  i.mnemonic.modes.contains i.mode && decide (i.mode.operandCount ≤ 2)

/-- `len(I) = 1 + operandCount` (R11, R140). -/
def Instr.length (i : Instr) : Nat := 1 + i.mode.operandCount

end Sys2Proof
end

