-- ==== Sys2Proof/Decode.lean ====
section
/-!
DEFINITION. The decoder, total on all bytes, and after it the encoder. The opcode byte alone fixes the row and the length
(R140); the opcode map is R156's table, row by row; the 105 bytes without a row are refused by name (R157).
-/

namespace Sys2Proof

/-- What a row of the opcode map builds from its operand bytes: nothing, from one byte, or from the little-endian word of
two bytes (R141, R142). -/
inductive Form where
  | op0 (instr : Instr)
  | op1 (instr : Byte → Instr)
  | op2 (instr : Addr → Instr)

/-- An opcode-map cell that holds an instruction without operand bytes. -/
def cell0 (i : Instr) : Option Form := some (.op0 i)
/-- An opcode-map cell whose instruction has one operand byte. -/
def cell1 (f : Byte → Instr) : Option Form := some (.op1 f)
/-- An opcode-map cell whose instruction has two operand bytes. -/
def cell2 (f : Addr → Instr) : Option Form := some (.op2 f)
/-- An opcode-map cell `--`: an unknown opcode (R157). -/
def cellU : Option Form := none

/-- Row 0x of R156's map. -/
def opcodeRow0 : List (Option Form) :=
  [cell0 .brk, cell1 .oraIndX, cellU, cellU, cellU, cell1 .oraZp, cell1 .aslZp, cellU, cell0 .php,
   cell1 .oraImm, cell0 .aslAcc, cellU, cellU, cell2 .oraAbs, cell2 .aslAbs, cellU]

/-- Row 1x of R156's map. -/
def opcodeRow1 : List (Option Form) :=
  [cell1 .bpl, cell1 .oraIndY, cellU, cellU, cellU, cell1 .oraZpX, cell1 .aslZpX, cellU, cell0 .clc,
   cell2 .oraAbsY, cellU, cellU, cellU, cell2 .oraAbsX, cell2 .aslAbsX, cellU]

/-- Row 2x of R156's map. -/
def opcodeRow2 : List (Option Form) :=
  [cell2 .jsr, cell1 .andIndX, cellU, cellU, cell1 .bitZp, cell1 .andZp, cell1 .rolZp, cellU, cell0 .plp,
   cell1 .andImm, cell0 .rolAcc, cellU, cell2 .bitAbs, cell2 .andAbs, cell2 .rolAbs, cellU]

/-- Row 3x of R156's map. -/
def opcodeRow3 : List (Option Form) :=
  [cell1 .bmi, cell1 .andIndY, cellU, cellU, cellU, cell1 .andZpX, cell1 .rolZpX, cellU, cell0 .sec,
   cell2 .andAbsY, cellU, cellU, cellU, cell2 .andAbsX, cell2 .rolAbsX, cellU]

/-- Row 4x of R156's map. -/
def opcodeRow4 : List (Option Form) :=
  [cell0 .rti, cell1 .eorIndX, cellU, cellU, cellU, cell1 .eorZp, cell1 .lsrZp, cellU, cell0 .pha,
   cell1 .eorImm, cell0 .lsrAcc, cellU, cell2 .jmpAbs, cell2 .eorAbs, cell2 .lsrAbs, cellU]

/-- Row 5x of R156's map. -/
def opcodeRow5 : List (Option Form) :=
  [cell1 .bvc, cell1 .eorIndY, cellU, cellU, cellU, cell1 .eorZpX, cell1 .lsrZpX, cellU, cell0 .cli,
   cell2 .eorAbsY, cellU, cellU, cellU, cell2 .eorAbsX, cell2 .lsrAbsX, cellU]

/-- Row 6x of R156's map. -/
def opcodeRow6 : List (Option Form) :=
  [cell0 .rts, cell1 .adcIndX, cellU, cellU, cellU, cell1 .adcZp, cell1 .rorZp, cellU, cell0 .pla,
   cell1 .adcImm, cell0 .rorAcc, cellU, cell2 .jmpInd, cell2 .adcAbs, cell2 .rorAbs, cellU]

/-- Row 7x of R156's map. -/
def opcodeRow7 : List (Option Form) :=
  [cell1 .bvs, cell1 .adcIndY, cellU, cellU, cellU, cell1 .adcZpX, cell1 .rorZpX, cellU, cell0 .sei,
   cell2 .adcAbsY, cellU, cellU, cellU, cell2 .adcAbsX, cell2 .rorAbsX, cellU]

/-- Row 8x of R156's map. -/
def opcodeRow8 : List (Option Form) :=
  [cellU, cell1 .staIndX, cellU, cellU, cell1 .styZp, cell1 .staZp, cell1 .stxZp, cellU, cell0 .dey, cellU,
   cell0 .txa, cellU, cell2 .styAbs, cell2 .staAbs, cell2 .stxAbs, cellU]

/-- Row 9x of R156's map. -/
def opcodeRow9 : List (Option Form) :=
  [cell1 .bcc, cell1 .staIndY, cellU, cellU, cell1 .styZpX, cell1 .staZpX, cell1 .stxZpY, cellU, cell0 .tya,
   cell2 .staAbsY, cell0 .txs, cellU, cellU, cell2 .staAbsX, cellU, cellU]

/-- Row Ax of R156's map. -/
def opcodeRowA : List (Option Form) :=
  [cell1 .ldyImm, cell1 .ldaIndX, cell1 .ldxImm, cellU, cell1 .ldyZp, cell1 .ldaZp, cell1 .ldxZp, cellU,
   cell0 .tay, cell1 .ldaImm, cell0 .tax, cellU, cell2 .ldyAbs, cell2 .ldaAbs, cell2 .ldxAbs, cellU]

/-- Row Bx of R156's map. -/
def opcodeRowB : List (Option Form) :=
  [cell1 .bcs, cell1 .ldaIndY, cellU, cellU, cell1 .ldyZpX, cell1 .ldaZpX, cell1 .ldxZpY, cellU, cell0 .clv,
   cell2 .ldaAbsY, cell0 .tsx, cellU, cell2 .ldyAbsX, cell2 .ldaAbsX, cell2 .ldxAbsY, cellU]

/-- Row Cx of R156's map. -/
def opcodeRowC : List (Option Form) :=
  [cell1 .cpyImm, cell1 .cmpIndX, cellU, cellU, cell1 .cpyZp, cell1 .cmpZp, cell1 .decZp, cellU, cell0 .iny,
   cell1 .cmpImm, cell0 .dex, cellU, cell2 .cpyAbs, cell2 .cmpAbs, cell2 .decAbs, cellU]

/-- Row Dx of R156's map. -/
def opcodeRowD : List (Option Form) :=
  [cell1 .bne, cell1 .cmpIndY, cellU, cellU, cellU, cell1 .cmpZpX, cell1 .decZpX, cellU, cell0 .cld,
   cell2 .cmpAbsY, cellU, cellU, cellU, cell2 .cmpAbsX, cell2 .decAbsX, cellU]

/-- Row Ex of R156's map. -/
def opcodeRowE : List (Option Form) :=
  [cell1 .cpxImm, cell1 .sbcIndX, cellU, cellU, cell1 .cpxZp, cell1 .sbcZp, cell1 .incZp, cellU, cell0 .inx,
   cell1 .sbcImm, cell0 .nop, cellU, cell2 .cpxAbs, cell2 .sbcAbs, cell2 .incAbs, cellU]

/-- Row Fx of R156's map. -/
def opcodeRowF : List (Option Form) :=
  [cell1 .beq, cell1 .sbcIndY, cellU, cellU, cellU, cell1 .sbcZpX, cell1 .incZpX, cellU, cell0 .sed,
   cell2 .sbcAbsY, cellU, cellU, cellU, cell2 .sbcAbsX, cell2 .incAbsX, cellU]

/-- R156's opcode map: the row is opcode[7:4], the column opcode[3:0]. -/
def opcodeMap : List (List (Option Form)) :=
  [opcodeRow0, opcodeRow1, opcodeRow2, opcodeRow3, opcodeRow4, opcodeRow5, opcodeRow6, opcodeRow7,
   opcodeRow8, opcodeRow9, opcodeRowA, opcodeRowB, opcodeRowC, opcodeRowD, opcodeRowE, opcodeRowF]

/-- The row of an opcode, none for an unknown one. -/
def formOf (op : Byte) : Option Form :=
  (opcodeMap.getD (op.toNat / 16) []).getD (op.toNat % 16) none

/-- How many operand bytes the row has (R141). -/
def Form.operandCount : Form → Nat
  | .op0 _ => 0
  | .op1 _ => 1
  | .op2 _ => 2

/-- Why the decoder refuses bytes: there is none, the first is an unknown opcode (R157), or fewer operand bytes follow
than its row has (R158). -/
inductive DecodeError where
  | noBytes
  | unknownOpcode (opcode : Byte)
  | operandsMissing (opcode : Byte)
deriving DecidableEq, Repr

/-- Builds the row's instruction from the bytes after the opcode; what is left over is answered with it. A 16-bit operand
is `b2 : b1` (R142). -/
def Form.build : Form → List Byte → Option (Instr × List Byte)
  | .op0 i, rest => some (i, rest)
  | .op1 f, b1 :: rest => some (f b1, rest)
  | .op2 f, b1 :: b2 :: rest => some (f (wordOf b2 b1), rest)
  | .op1 _, [] => none
  | .op2 _, [] => none
  | .op2 _, [_] => none

/-- The decoder (R141): the instruction at the front of the bytes and the bytes after it. -/
def decode : List Byte → Except DecodeError (Instr × List Byte)
  | [] => .error .noBytes
  | op :: rest =>
    match formOf op with
    | none => .error (.unknownOpcode op)
    | some f =>
      match f.build rest with
      | none => .error (.operandsMissing op)
      | some r => .ok r

/-- The opcode byte of a row (R156; the "Encoding" of R170 to R303). -/
def Instr.opcode : Instr → Byte
  | .ldaImm _ => 0xA9#8
  | .ldaZp _ => 0xA5#8
  | .ldaZpX _ => 0xB5#8
  | .ldaAbs _ => 0xAD#8
  | .ldaAbsX _ => 0xBD#8
  | .ldaAbsY _ => 0xB9#8
  | .ldaIndX _ => 0xA1#8
  | .ldaIndY _ => 0xB1#8
  | .ldxImm _ => 0xA2#8
  | .ldxZp _ => 0xA6#8
  | .ldxZpY _ => 0xB6#8
  | .ldxAbs _ => 0xAE#8
  | .ldxAbsY _ => 0xBE#8
  | .ldyImm _ => 0xA0#8
  | .ldyZp _ => 0xA4#8
  | .ldyZpX _ => 0xB4#8
  | .ldyAbs _ => 0xAC#8
  | .ldyAbsX _ => 0xBC#8
  | .staZp _ => 0x85#8
  | .staZpX _ => 0x95#8
  | .staAbs _ => 0x8D#8
  | .staAbsX _ => 0x9D#8
  | .staAbsY _ => 0x99#8
  | .staIndX _ => 0x81#8
  | .staIndY _ => 0x91#8
  | .stxZp _ => 0x86#8
  | .stxZpY _ => 0x96#8
  | .stxAbs _ => 0x8E#8
  | .styZp _ => 0x84#8
  | .styZpX _ => 0x94#8
  | .styAbs _ => 0x8C#8
  | .tax => 0xAA#8
  | .tay => 0xA8#8
  | .txa => 0x8A#8
  | .tya => 0x98#8
  | .tsx => 0xBA#8
  | .txs => 0x9A#8
  | .adcImm _ => 0x69#8
  | .adcZp _ => 0x65#8
  | .adcZpX _ => 0x75#8
  | .adcAbs _ => 0x6D#8
  | .adcAbsX _ => 0x7D#8
  | .adcAbsY _ => 0x79#8
  | .adcIndX _ => 0x61#8
  | .adcIndY _ => 0x71#8
  | .sbcImm _ => 0xE9#8
  | .sbcZp _ => 0xE5#8
  | .sbcZpX _ => 0xF5#8
  | .sbcAbs _ => 0xED#8
  | .sbcAbsX _ => 0xFD#8
  | .sbcAbsY _ => 0xF9#8
  | .sbcIndX _ => 0xE1#8
  | .sbcIndY _ => 0xF1#8
  | .andImm _ => 0x29#8
  | .andZp _ => 0x25#8
  | .andZpX _ => 0x35#8
  | .andAbs _ => 0x2D#8
  | .andAbsX _ => 0x3D#8
  | .andAbsY _ => 0x39#8
  | .andIndX _ => 0x21#8
  | .andIndY _ => 0x31#8
  | .oraImm _ => 0x09#8
  | .oraZp _ => 0x05#8
  | .oraZpX _ => 0x15#8
  | .oraAbs _ => 0x0D#8
  | .oraAbsX _ => 0x1D#8
  | .oraAbsY _ => 0x19#8
  | .oraIndX _ => 0x01#8
  | .oraIndY _ => 0x11#8
  | .eorImm _ => 0x49#8
  | .eorZp _ => 0x45#8
  | .eorZpX _ => 0x55#8
  | .eorAbs _ => 0x4D#8
  | .eorAbsX _ => 0x5D#8
  | .eorAbsY _ => 0x59#8
  | .eorIndX _ => 0x41#8
  | .eorIndY _ => 0x51#8
  | .cmpImm _ => 0xC9#8
  | .cmpZp _ => 0xC5#8
  | .cmpZpX _ => 0xD5#8
  | .cmpAbs _ => 0xCD#8
  | .cmpAbsX _ => 0xDD#8
  | .cmpAbsY _ => 0xD9#8
  | .cmpIndX _ => 0xC1#8
  | .cmpIndY _ => 0xD1#8
  | .cpxImm _ => 0xE0#8
  | .cpxZp _ => 0xE4#8
  | .cpxAbs _ => 0xEC#8
  | .cpyImm _ => 0xC0#8
  | .cpyZp _ => 0xC4#8
  | .cpyAbs _ => 0xCC#8
  | .bitZp _ => 0x24#8
  | .bitAbs _ => 0x2C#8
  | .incZp _ => 0xE6#8
  | .incZpX _ => 0xF6#8
  | .incAbs _ => 0xEE#8
  | .incAbsX _ => 0xFE#8
  | .decZp _ => 0xC6#8
  | .decZpX _ => 0xD6#8
  | .decAbs _ => 0xCE#8
  | .decAbsX _ => 0xDE#8
  | .inx => 0xE8#8
  | .iny => 0xC8#8
  | .dex => 0xCA#8
  | .dey => 0x88#8
  | .aslAcc => 0x0A#8
  | .aslZp _ => 0x06#8
  | .aslZpX _ => 0x16#8
  | .aslAbs _ => 0x0E#8
  | .aslAbsX _ => 0x1E#8
  | .lsrAcc => 0x4A#8
  | .lsrZp _ => 0x46#8
  | .lsrZpX _ => 0x56#8
  | .lsrAbs _ => 0x4E#8
  | .lsrAbsX _ => 0x5E#8
  | .rolAcc => 0x2A#8
  | .rolZp _ => 0x26#8
  | .rolZpX _ => 0x36#8
  | .rolAbs _ => 0x2E#8
  | .rolAbsX _ => 0x3E#8
  | .rorAcc => 0x6A#8
  | .rorZp _ => 0x66#8
  | .rorZpX _ => 0x76#8
  | .rorAbs _ => 0x6E#8
  | .rorAbsX _ => 0x7E#8
  | .pha => 0x48#8
  | .pla => 0x68#8
  | .php => 0x08#8
  | .plp => 0x28#8
  | .clc => 0x18#8
  | .sec => 0x38#8
  | .cli => 0x58#8
  | .sei => 0x78#8
  | .clv => 0xB8#8
  | .cld => 0xD8#8
  | .sed => 0xF8#8
  | .nop => 0xEA#8
  | .bcc _ => 0x90#8
  | .bcs _ => 0xB0#8
  | .beq _ => 0xF0#8
  | .bne _ => 0xD0#8
  | .bmi _ => 0x30#8
  | .bpl _ => 0x10#8
  | .bvc _ => 0x50#8
  | .bvs _ => 0x70#8
  | .jmpAbs _ => 0x4C#8
  | .jmpInd _ => 0x6C#8
  | .jsr _ => 0x20#8
  | .rts => 0x60#8
  | .brk => 0x00#8
  | .rti => 0x40#8

/-- The operand bytes in memory order: a 16-bit operand low byte first (R142). -/
def Instr.operandBytes : Instr → List Byte
  | .tax | .tay | .txa | .tya | .tsx | .txs | .inx | .iny | .dex | .dey | .aslAcc | .lsrAcc | .rolAcc
  | .rorAcc | .pha | .pla | .php | .plp | .clc | .sec | .cli | .sei | .clv | .cld | .sed | .nop | .rts | .brk
  | .rti => []
  | .ldaImm b | .ldaZp b | .ldaZpX b | .ldaIndX b | .ldaIndY b | .ldxImm b | .ldxZp b | .ldxZpY b | .ldyImm b
  | .ldyZp b | .ldyZpX b | .staZp b | .staZpX b | .staIndX b | .staIndY b | .stxZp b | .stxZpY b | .styZp b
  | .styZpX b | .adcImm b | .adcZp b | .adcZpX b | .adcIndX b | .adcIndY b | .sbcImm b | .sbcZp b | .sbcZpX b
  | .sbcIndX b | .sbcIndY b | .andImm b | .andZp b | .andZpX b | .andIndX b | .andIndY b | .oraImm b
  | .oraZp b | .oraZpX b | .oraIndX b | .oraIndY b | .eorImm b | .eorZp b | .eorZpX b | .eorIndX b
  | .eorIndY b | .cmpImm b | .cmpZp b | .cmpZpX b | .cmpIndX b | .cmpIndY b | .cpxImm b | .cpxZp b
  | .cpyImm b | .cpyZp b | .bitZp b | .incZp b | .incZpX b | .decZp b | .decZpX b | .aslZp b | .aslZpX b
  | .lsrZp b | .lsrZpX b | .rolZp b | .rolZpX b | .rorZp b | .rorZpX b | .bcc b | .bcs b | .beq b | .bne b
  | .bmi b | .bpl b | .bvc b | .bvs b => [b]
  | .ldaAbs w | .ldaAbsX w | .ldaAbsY w | .ldxAbs w | .ldxAbsY w | .ldyAbs w | .ldyAbsX w | .staAbs w
  | .staAbsX w | .staAbsY w | .stxAbs w | .styAbs w | .adcAbs w | .adcAbsX w | .adcAbsY w | .sbcAbs w
  | .sbcAbsX w | .sbcAbsY w | .andAbs w | .andAbsX w | .andAbsY w | .oraAbs w | .oraAbsX w | .oraAbsY w
  | .eorAbs w | .eorAbsX w | .eorAbsY w | .cmpAbs w | .cmpAbsX w | .cmpAbsY w | .cpxAbs w | .cpyAbs w
  | .bitAbs w | .incAbs w | .incAbsX w | .decAbs w | .decAbsX w | .aslAbs w | .aslAbsX w | .lsrAbs w
  | .lsrAbsX w | .rolAbs w | .rolAbsX w | .rorAbs w | .rorAbsX w | .jmpAbs w | .jmpInd w | .jsr w => [loByte w, hiByte w]

/-- The encoder: the opcode and then the operand bytes (R140, R142). -/
def encode (i : Instr) : List Byte := i.opcode :: i.operandBytes

/-- The assembled form an instruction stands for (R33). -/
def Instr.raw (i : Instr) : Raw := { mnemonic := i.mnemonic, mode := i.mode, operands := i.operandBytes }

/-- The bytes of an instruction whose bits are w, the first byte in the low bits; the bits from nbits on are 0, up to the
longest instruction. -/
def tableBytes (nbits w : Nat) : List Byte :=
  let v := w % 2 ^ nbits
  [BitVec.ofNat 8 v, BitVec.ofNat 8 (v / 2 ^ 8), BitVec.ofNat 8 (v / 2 ^ 16)]

/-- The instruction the decoder reads from an opcode-table word. -/
def decodeTableWord (nbits w : Nat) : Option Instr :=
  match decode (tableBytes nbits w) with
  | .ok (i, _) => some i
  | .error _ => none

end Sys2Proof
end

