-- ==== Sys2Proof/Machine/Float.lean ====
section
/-!
DEFINITION. The IEEE 754 arithmetic of the mixer (R410): non-negative binary floating-point numbers as a significand and an
exponent, each operation the exact rational result rounded to nearest, ties to even. The mixer's values are 0 or lie far
inside the normal range (R410), so no subnormal and no infinity is represented.
-/

namespace Sys2Proof.Machine

/-- The number `man * 2 ^ exp`; 0 has significand 0. -/
structure Flt where
  man : Nat
  exp : Int
deriving DecidableEq, Repr

/-- 0. -/
def Flt.zero : Flt := { man := 0, exp := 0 }

/-- The numerator of a number read as a fraction of naturals. -/
def Flt.num (x : Flt) : Nat := x.man * 2 ^ x.exp.toNat

/-- The denominator of a number read as a fraction of naturals. -/
def Flt.den (x : Flt) : Nat := 2 ^ (-x.exp).toNat

/-- `num / den / 2 ^ e`, its integer part and whether the rest is below, at or above one half: the significand rounded to
nearest, ties to even. -/
def roundedQuotient (num den : Nat) (e : Int) : Nat :=
  let n := num * 2 ^ (-e).toNat
  let d := den * 2 ^ e.toNat
  let q := n / d
  let r := n % d
  if 2 * r < d then q else if 2 * r > d then q + 1 else q + q % 2

/-- The exponent e with `2 ^ (p - 1) ≤ num / den / 2 ^ e < 2 ^ p`, for num > 0. -/
def quotientExponent (p num den : Nat) : Int :=
  let e : Int := (Nat.log2 num : Int) - (Nat.log2 den : Int) - (p : Int) + 1
  if num * 2 ^ (-e).toNat < den * 2 ^ e.toNat * 2 ^ (p - 1) then e - 1 else e

/-- `num / den` rounded to p significant bits, to nearest, ties to even. -/
def roundFraction (p num den : Nat) : Flt :=
  if num = 0 then Flt.zero
  else
    let e := quotientExponent p num den
    let q := roundedQuotient num den e
    if q = 2 ^ p then { man := 2 ^ (p - 1), exp := e + 1 } else { man := q, exp := e }

/-- The binary64 number nearest to `num / den`. -/
def f64 (num den : Nat) : Flt := roundFraction 53 num den

/-- Binary64 addition. -/
def f64Add (x y : Flt) : Flt := f64 (x.num * y.den + y.num * x.den) (x.den * y.den)

/-- Binary64 division by a non-zero number. -/
def f64Div (x y : Flt) : Flt := f64 (x.num * y.den) (x.den * y.num)

/-- The binary32 encoding of a number, rounded to nearest, ties to even. -/
def toBinary32 (x : Flt) : BitVec 32 :=
  let r := roundFraction 24 x.num x.den
  if r.man = 0 then 0 else BitVec.ofNat 32 ((r.exp + 150).toNat * 2 ^ 23 + (r.man - 2 ^ 23))

end Sys2Proof.Machine
end

