-- ==== Sys2Proof/Config.lean ====
section
/-!
DEFINITION. What the spec leaves to the implementation: the named parameters of R7 that are plain data, and the free
values, which are constants without a body.
-/

namespace Sys2Proof

/-- An entry of a cycle-cost table: a base count, a base count with the page penalty (`p`), a branch (`b`), or an unknown
opcode (`-`) (R456, R463). -/
inductive Cost where
  | fixed (base : Nat)
  | page (base : Nat)
  | branch (base : Nat)
  | unknown
deriving DecidableEq, Repr

/-- The parameters of R7 that are plain data. They are held in the state, no step changes them, and every statement about
all states is a statement about all parameters (log entry 8). -/
structure Params where
  /-- `JmpIndirectPageWrap` (D11): JMP ($xxFF) fetches its high byte from $xx00. -/
  jmpIndirectPageWrap : Bool
  /-- `PrgRamPresent` (D8): power-up installs 8 KiB of RAM at $6000-$7FFF. -/
  prgRamPresent : Bool
  /-- `FrameResetDelay` (D38): CPU cycles from a $4017 write to the frame sequencer's reset. -/
  frameResetDelay : Nat
  /-- `CycleBudget` (D49), 0 for unlimited. -/
  cycleBudget : Nat
  /-- `CycleCost` (D6): another table than R463's, its 256 entries indexed by opcode; none for R463's. -/
  cycleTable : Option (List Cost)
deriving DecidableEq, Repr

/-- The parameters of `State.reset`: the defaults of R7's table, and for `CycleBudget`, which R7 calls host input and gives no
default, 0 for unlimited. DESIGN CHOICE: that 0 is the model's (log entry 8). -/
def Params.standard : Params :=
  { jmpIndirectPageWrap := true, prgRamPresent := false, frameResetDelay := 4, cycleBudget := 0,
    cycleTable := none }

/-- The n-th draw `OpenBusBits` (R78, D46): bits 7 to 1 of a controller read. Free: nothing constrains it (log entry 4). -/
opaque Config.openBus : Nat → Byte

/-- `CyclesPerOutputSample` (R411, D44), OPEN. R7's type column says only "numbers". DESIGN CHOICE: a rational number, so that
fractional counts of cycles are covered (log entry 15). -/
opaque Config.cyclesPerOutputSample : Rat

/-- `AudioBlockSize` (R411, D44), OPEN. DESIGN CHOICE: a natural number of output samples (log entry 15). -/
opaque Config.audioBlockSize : Nat

/-- `Resampler` (R411, D44), OPEN: from the cycles per output sample and the mixer samples since power-up (binary32 words,
one per CPU cycle) to the output samples (log entry 15). -/
opaque Config.resampler : Rat → List (BitVec 32) → List (BitVec 32)

end Sys2Proof
end

