-- ==== Sys2Proof/Machine/Memory.lean ====
section
/-!
DEFINITION. Byte memories as plain data: cells sorted by address, none listed that holds what an unlisted address reads as.
RAM, PRG-RAM, CHR-RAM, the nametable RAM and the bytes of a cartridge image are memories.
-/

namespace Sys2Proof.Machine

/-- A byte memory: its listed cells. -/
abbrev Memory := List Host.Cell

/-- What an unlisted address reads as. DESIGN CHOICE, unsafe: the power-up contents of RAM are a draw (D54); every
contents is a memory, and State.reset takes the one with nothing listed (log entry 2). -/
def unlistedByte : Byte := 0#8

/-- The byte at index k. -/
def Memory.read : Memory → Nat → Byte
  | [], _ => unlistedByte
  | (a, b) :: m, k => if a = k then b else Memory.read m k

/-- Replaces the byte at index k, keeping the canonical form: storing the unlisted byte removes the entry. -/
def Memory.write : Memory → Nat → Byte → Memory
  | [], k, v => if v = unlistedByte then [] else [(k, v)]
  | (a, b) :: m, k, v =>
    if k < a then (if v = unlistedByte then (a, b) :: m else (k, v) :: (a, b) :: m)
    else if k = a then (if v = unlistedByte then m else (k, v) :: m)
    else (a, b) :: Memory.write m k v

/-- The canonical form from index lo on: indexes strictly rising, no listed byte equal to the unlisted one. -/
def Memory.risingFrom : Nat → Memory → Bool
  | _, [] => true
  | lo, (a, b) :: m => decide (lo ≤ a) && (b != unlistedByte) && Memory.risingFrom (a + 1) m

/-- The canonical form of a memory. -/
def Memory.wf (m : Memory) : Bool := Memory.risingFrom 0 m

/-- Every listed index lies below n: the memory is one of n bytes. -/
def Memory.below (n : Nat) (m : Memory) : Bool := m.all fun c => decide (c.1 < n)

/-- The memory that holds the given bytes from index lo on. -/
def Memory.ofBytesFrom : Nat → List Byte → Memory
  | _, [] => []
  | lo, b :: bs =>
    if b = unlistedByte then Memory.ofBytesFrom (lo + 1) bs else (lo, b) :: Memory.ofBytesFrom (lo + 1) bs

/-- The memory of n bytes that holds the first n of the given bytes; where there are fewer, the rest is unlisted. -/
def Memory.ofBytes (n : Nat) (bs : List Byte) : Memory := Memory.ofBytesFrom 0 (bs.take n)

end Sys2Proof.Machine
end

