-- ==== Sys2Proof/Machine/State.lean ====
section
/-!
DEFINITION. The state of the CORE as plain data (R37): the CPU, the memories, the PPU sequencer, the APU, the mapper, the
controller port, the configuration, and the host's side of the interface. The reasons a step can stop stand first.
-/

namespace Sys2Proof.Machine

/-! ## Faults and refusals -/

/-- The access kind a fault or a refusal records (R320, R323). -/
inductive Access where
  | read
  | write
deriving DecidableEq, Repr

/-- Why a container does not parse (R101, R121, code 8 of R320). -/
inductive ParseReason where
  | magic
  | truncated
deriving DecidableEq, Repr

/-- The fault kinds of R320. Each is safe: the spec ends the run there too (R322). -/
inductive Fault where
  /-- Code 1, raised by fetching an opcode without a row (R157). Safe: the spec's own fault. -/
  | unknownOpcode (pc : Addr) (opcode : Byte)
  /-- Code 2, raised when the operand bytes fetched do not fit the row (R158). Unreachable with R156's table. Safe. -/
  | operandCountMismatch (opcode : Byte)
  /-- Code 3, raised by a fetch outside every code region (R68). Safe: the spec's own fault. -/
  | pcOutOfRange (addr : Addr)
  /-- Code 4, raised by a data access to an unmapped address (R61, R62, R79, R124). Safe: the spec's own fault. -/
  | accessFault (addr : Addr) (access : Access)
  /-- Code 5, raised by an NROM write to $8000-$FFFF (R110). Safe: the spec's own fault. -/
  | unsupportedBankSwitch (addr : Addr) (value : Byte)
  /-- Code 6, raised by a bank window beyond the image (R105, R106, R109). Safe: the spec's own fault. -/
  | bankOutOfRange (offset : Nat)
  /-- Code 7, raised by loading a cartridge with another mapper id than 0, 1, 2 (R103). Safe: the spec's own fault. -/
  | unsupportedMapper (id : Nat)
  /-- Code 8, raised by loading a malformed container (R101, R121). Safe: the spec's own fault. -/
  | containerParseError (reason : ParseReason)
deriving DecidableEq, Repr

/-- Why a step ends without a next state and without a fault. -/
inductive Refusal where
  /-- Raised by an arm of `exec` whose instruction has no meaning yet; no arm is one. Safe. -/
  | notModelled (mnemonic : String)
  /-- Code $20, raised by an access the spec refuses: a read of a write-only register, PPU registers 3 to 7, $4014, a read
  of an NSF bank register (R323). Safe: the spec makes no claim there. -/
  | unmodelled (addr : Addr) (access : Access)
  /-- Code $10, raised by a step of a run that the host ended on its budget: `Terminated` has no next step (R324). Safe. -/
  | budgetExhausted
deriving DecidableEq, Repr

/-- The run state of R29. -/
inductive RunState where
  | running
  | faulted (fault : Fault)
  | refused (refusal : Refusal)
  | terminated
deriving DecidableEq, Repr

/-! ## The cartridge -/

/-- The bytes of an image: how many there are and what they hold; bytes that are not listed hold the unlisted byte. -/
structure Image where
  size : Nat
  cells : Memory
deriving DecidableEq, Repr

/-- A video cartridge (R100). -/
structure NesFile where
  prg : Image
  chr : Image
  mapperId : BitVec 4
  /-- The mirroring flag: header byte 6 bit 0 (R101, R108). -/
  vertical : Bool
deriving DecidableEq, Repr

/-- A music cartridge (R121). -/
structure NsfFile where
  load : Addr
  init : Addr
  play : Addr
  songs : Byte
  start : Byte
  ntscSpeed : BitVec 16
  banks0 : Vector Byte 8
  data : Image
deriving DecidableEq, Repr

/-- The loaded cartridge: video mode or NSF mode (R62, R79). -/
inductive Cartridge where
  | nes (file : NesFile)
  | nsf (file : NsfFile)
deriving DecidableEq, Repr

/-! ## The mapper -/

/-- The MMC1-style registers (R111). -/
structure Mmc1 where
  shift : BitVec 5
  count : Nat
  control : BitVec 5
  chrBank0 : BitVec 5
  chrBank1 : BitVec 5
  prgBank : BitVec 5
deriving DecidableEq, Repr

/-- The mapper's own state (R126). -/
inductive MapperState where
  | nrom
  | mmc1 (regs : Mmc1)
  | uxrom (bank : Byte)
  | nsf (banks : Vector Byte 8) (banked : Bool)
deriving DecidableEq, Repr

/-- The windows the mapper sets: byte offsets into prg (R104) and into chr (R106). -/
structure Windows where
  prgLo : Nat
  prgHi : Nat
  chr0 : Nat
  chr1 : Nat
deriving DecidableEq, Repr

/-! ## The PPU -/

/-- The PPU's state (R349), its CHR-RAM (R107) and its nametable RAM (R108). -/
structure PpuState where
  ctrl : Byte
  mask : Byte
  vblank : Bool
  scanline : Nat
  dot : Nat
  chrRam : Memory
  nametables : Memory
deriving DecidableEq, Repr

/-! ## The APU -/

/-- An envelope unit with the register fields it shares with its channel (R391): `halt` is the length halt flag and the
envelope's loop flag. -/
structure Envelope where
  halt : Bool
  constVol : Bool
  vol : BitVec 4
  start : Bool
  divider : BitVec 4
  decay : BitVec 4
deriving DecidableEq, Repr

/-- A pulse channel (R394). -/
structure PulseState where
  enabled : Bool
  duty : BitVec 2
  env : Envelope
  sweepEn : Bool
  sweepPeriod : BitVec 3
  sweepNeg : Bool
  sweepShift : BitVec 3
  sweepReload : Bool
  sweepDivider : BitVec 3
  period : BitVec 11
  timer : BitVec 11
  seqPos : BitVec 3
  len : Byte
deriving DecidableEq, Repr

/-- The triangle channel (R401). -/
structure TriangleState where
  enabled : Bool
  control : Bool
  linReloadValue : BitVec 7
  linReload : Bool
  lin : BitVec 7
  period : BitVec 11
  timer : BitVec 11
  seqPos : BitVec 5
  len : Byte
deriving DecidableEq, Repr

/-- The noise channel (R406). -/
structure NoiseState where
  enabled : Bool
  env : Envelope
  mode : Bool
  periodIndex : BitVec 4
  timer : Nat
  lfsr : BitVec 15
  len : Byte
deriving DecidableEq, Repr

/-- The whole APU (R416). `fsMode` is false for 4-step and true for 5-step. -/
structure ApuState where
  pulse1 : PulseState
  pulse2 : PulseState
  triangle : TriangleState
  noise : NoiseState
  fsMode : Bool
  irqInhibit : Bool
  fsDivider : Nat
  fsStep : Nat
  resetCountdown : Nat
  parity : Bool
deriving DecidableEq, Repr

/-! ## The controller port and the host -/

/-- The controller port (R78). -/
structure PadState where
  strobe : Bool
  shift : Byte
deriving DecidableEq, Repr

/-- The power-up draws (R7, R451): the contents of A, X, Y and of the RAMs, each RAM as its bytes from index 0 on. -/
structure Draws where
  a : Byte
  x : Byte
  y : Byte
  ram : List Byte
  prgRam : List Byte
  chrRam : List Byte
  nametables : List Byte
deriving DecidableEq, Repr

/-- What the host does at a boundary between system steps (R459). -/
inductive HostMove where
  /-- Grants one system step, with the button snapshot taken at its start (R458). -/
  | grant (buttons : Byte)
  /-- Grants nothing: paused, or its cycle quota spent. -/
  | withhold
  /-- Ends the run on the cycle budget (R324). -/
  | endOnBudget
  /-- The NSF play timer (R454). -/
  | playTimer
  /-- Loads a video cartridge from its container bytes: a fresh power-up (R101, R450). -/
  | loadNes (container : List Byte) (draws : Draws)
  /-- Loads a music cartridge from its container bytes: a fresh power-up (R121, R450). -/
  | loadNsf (container : List Byte) (draws : Draws)
  /-- The NSF track change: a fresh NSF boot with the new track (R454). -/
  | changeTrack (track : Byte) (draws : Draws)
deriving DecidableEq, Repr

/-- What the last system step handed to the host: the frame report (R361) and one binary32 sample per CPU cycle (R410). -/
structure StepOutput where
  frame : Bool
  samples : List (BitVec 32)
deriving DecidableEq, Repr

/-! ## The whole state -/

/-- The state of the CORE (R37). -/
structure State where
  /-- The accumulator (R20). -/
  a : Byte
  /-- Index register X (R21). -/
  x : Byte
  /-- Index register Y (R22). -/
  y : Byte
  /-- The stack pointer S (R23). -/
  sp : Byte
  /-- The program counter (R24). -/
  pc : Addr
  /-- The status byte P: N V B5 B4 D I Z C from bit 7 down (R25). -/
  p : Byte
  /-- The CPU cycle counter, unbounded (R28). -/
  cycles : Nat
  /-- The run state (R29). -/
  run : RunState
  /-- The NMI latch (R30). -/
  nmiPending : Bool
  /-- The 2048 bytes of internal RAM (R32). -/
  ram : Memory
  /-- The 8192 bytes of PRG-RAM, where present (R32). -/
  prgRam : Option Memory
  /-- The PPU (R349). -/
  ppu : PpuState
  /-- The APU (R416). -/
  apu : ApuState
  /-- The mapper's registers (R126). -/
  mapper : MapperState
  /-- The mapper's windows (R104, R106). -/
  windows : Windows
  /-- The controller port (R78). -/
  pad : PadState
  /-- The cartridge image (R35). -/
  cart : Cartridge
  /-- The NSF track number t of the bootstrap (R453). -/
  track : Byte
  /-- The parameters (R7). -/
  params : Params
  /-- PC has reached the NSF play routine's call (R454). -/
  reachedPlay : Bool
  /-- The button snapshot of the current step (R78, R458). -/
  buttons : Byte
  /-- The MODEL's own: the host's coming moves, oldest first; empty, the host grants every step and the buttons stay as
  they are (log entry 5). -/
  hostQueue : List HostMove
  /-- The MODEL's own: how many open-bus draws were taken (log entry 4). -/
  drawCount : Nat
  /-- The MODEL's own: what the last system step handed to the host (log entry 14). -/
  out : StepOutput
  /-- The MODEL's own: every mixer sample since power-up, newest first, one per CPU cycle: the sequence that R411 hands to the
  `Resampler` (log entry 15). -/
  audio : List (BitVec 32)
deriving DecidableEq, Repr

/-! ## Reset -/

/-- An envelope at power-up (R414). -/
def Envelope.reset : Envelope :=
  { halt := false, constVol := false, vol := 0, start := false, divider := 0, decay := 0 }

/-- A pulse channel at power-up (R414). -/
def PulseState.reset : PulseState :=
  { enabled := false, duty := 0, env := Envelope.reset, sweepEn := false, sweepPeriod := 0, sweepNeg := false,
    sweepShift := 0, sweepReload := false, sweepDivider := 0, period := 0, timer := 0, seqPos := 0, len := 0 }

/-- The triangle channel at power-up (R414). -/
def TriangleState.reset : TriangleState :=
  { enabled := false, control := false, linReloadValue := 0, linReload := false, lin := 0, period := 0, timer := 0,
    seqPos := 0, len := 0 }

/-- The noise channel at power-up: the LFSR is 1 (R414). -/
def NoiseState.reset : NoiseState :=
  { enabled := false, env := Envelope.reset, mode := false, periodIndex := 0, timer := 0, lfsr := 1, len := 0 }

/-- The APU at power-up (R414). -/
def ApuState.reset : ApuState :=
  { pulse1 := PulseState.reset, pulse2 := PulseState.reset, triangle := TriangleState.reset, noise := NoiseState.reset,
    fsMode := false, irqInhibit := false, fsDivider := 0, fsStep := 0, resetCountdown := 0, parity := false }

/-- The PPU at power-up (R364), with the given contents of its RAMs. -/
def PpuState.reset (chrRam nametables : Memory) : PpuState :=
  { ctrl := 0, mask := 0, vblank := false, scanline := 0, dot := 0, chrRam := chrRam, nametables := nametables }

/-- The cartridge of `State.reset`: an NROM-256 cartridge whose bytes are all unlisted. DESIGN CHOICE: the cartridge is
host input (I21); every statement about all states holds for every cartridge (log entry 3). -/
def Cartridge.blank : Cartridge :=
  .nes { prg := { size := 32768, cells := [] }, chr := { size := 8192, cells := [] }, mapperId := 0, vertical := false }

/-- The machine right after power-up (R451) with the blank cartridge, the standard parameters and draws of zeros. PC is
the word at $FFFC of the blank cartridge (R452). DESIGN CHOICE, unsafe: A, X, Y and the RAM contents are draws that the
spec leaves open (log entries 1, 2, 3). -/
def State.reset : State :=
  { a := 0x00, x := 0x00, y := 0x00, sp := 0xFD, pc := 0x0000, p := 0x34, cycles := 0, run := .running,
    nmiPending := false, ram := [], prgRam := none, ppu := PpuState.reset [] [], apu := ApuState.reset,
    mapper := .nrom, windows := { prgLo := 0, prgHi := 16384, chr0 := 0, chr1 := 4096 },
    pad := { strobe := false, shift := 0 }, cart := Cartridge.blank, track := 0, params := Params.standard,
    reachedPlay := false, buttons := 0, hostQueue := [], drawCount := 0, out := { frame := false, samples := [] },
    audio := [] }

end Sys2Proof.Machine
end

