-- ==== Sys2Proof/Machine/Apu.lean ====
section
/-!
DEFINITION. The APU (62_apu.md): the envelope, sweep, length and linear units, the timers and sequencers, the frame
sequencer, the channel outputs and the mixer, and the registers as the CPU writes and reads them.
-/

namespace Sys2Proof.Machine

/-! ## Tables -/

/-- The length table (R389). -/
def lengthTable : List Nat :=
  [10, 254, 20, 2, 40, 4, 80, 6, 160, 8, 60, 10, 14, 12, 26, 14] ++
  [12, 16, 24, 18, 48, 20, 96, 22, 192, 24, 72, 26, 16, 28, 32, 30]

/-- `LengthTable[i]`. -/
def lengthOf (i : BitVec 5) : Byte := BitVec.ofNat 8 (lengthTable.getD i.toNat 0)

/-- The duty table: rows by duty, output bits by sequencer position (R396). -/
def dutyTable : List (List Nat) :=
  [[0, 1, 0, 0, 0, 0, 0, 0], [0, 1, 1, 0, 0, 0, 0, 0], [0, 1, 1, 1, 1, 0, 0, 0], [1, 0, 0, 1, 1, 1, 1, 1]]

/-- The triangle table: 15 down to 0, then 0 up to 15 (R404). -/
def triangleTable : List Nat :=
  [15, 14, 13, 12, 11, 10, 9, 8, 7, 6, 5, 4, 3, 2, 1, 0] ++ [0, 1, 2, 3, 4, 5, 6, 7, 8, 9, 10, 11, 12, 13, 14, 15]

/-- The noise period table, in APU cycles (R407). -/
def noisePeriodTable : List Nat :=
  [2, 4, 8, 16, 32, 48, 64, 80, 101, 127, 190, 254, 381, 508, 1017, 2034]

/-- `NoisePeriod[periodIndex]`. -/
def noisePeriod (i : BitVec 4) : Nat := noisePeriodTable.getD i.toNat 0

/-! ## Units -/

/-- The envelope clock, on each quarter frame (R392). -/
def clockEnvelope (e : Envelope) : Envelope :=
  if e.start then { e with start := false, decay := 15, divider := e.vol }
  else if e.divider = 0 then
    { e with
      divider := e.vol
      decay := if e.decay ≠ 0 then e.decay - 1 else if e.halt then 15 else e.decay }
  else { e with divider := e.divider - 1 }

/-- `EnvVolume` (R393). -/
def envVolume (e : Envelope) : Nat := if e.constVol then e.vol.toNat else e.decay.toNat

/-- The length clock, on each half frame (R390). -/
def clockLength (halt : Bool) (len : Byte) : Byte := if len ≠ 0 ∧ halt = false then len - 1 else len

/-- `LengthLoad(i)`: ignored while the channel is disabled (R389). -/
def loadLength (enabled : Bool) (i : BitVec 5) (len : Byte) : Byte := if enabled then lengthOf i else len

/-- The sweep target of a pulse channel; pulse 1 negates by one's complement (R397). -/
def sweepTarget (isPulse1 : Bool) (p : PulseState) : Int :=
  let change : Int := (p.period >>> p.sweepShift.toNat).toNat
  if p.sweepNeg = false then p.period.toNat + change
  else if isPulse1 then p.period.toNat - change - 1
  else p.period.toNat - change

/-- `Muted` (R398). -/
def pulseMuted (isPulse1 : Bool) (p : PulseState) : Bool :=
  decide (p.period.toNat < 8) || decide (sweepTarget isPulse1 p > 0x7FF)

/-- The sweep clock, on each half frame (R399). -/
def clockSweep (isPulse1 : Bool) (p : PulseState) : PulseState :=
  let hit := p.sweepDivider == 0 && p.sweepEn && p.sweepShift != 0 && !pulseMuted isPulse1 p
  let reload := p.sweepDivider == 0 || p.sweepReload
  { p with
    period := if hit then BitVec.ofNat 11 (sweepTarget isPulse1 p).toNat else p.period
    sweepDivider := if reload then p.sweepPeriod else p.sweepDivider - 1
    sweepReload := if reload then false else p.sweepReload }

/-- The linear counter clock, on each quarter frame (R403). -/
def clockLinear (t : TriangleState) : TriangleState :=
  { t with
    lin := if t.linReload then t.linReloadValue else if t.lin ≠ 0 then t.lin - 1 else t.lin
    linReload := if t.control then t.linReload else false }

/-! ## Timers -/

/-- The pulse timer, on each APU cycle (R395). -/
def clockPulseTimer (p : PulseState) : PulseState :=
  if p.timer = 0 then { p with timer := p.period, seqPos := p.seqPos + 1 } else { p with timer := p.timer - 1 }

/-- The triangle timer, on each CPU cycle (R402). -/
def clockTriangleTimer (t : TriangleState) : TriangleState :=
  if t.timer = 0 then
    { t with timer := t.period, seqPos := if t.len ≠ 0 ∧ t.lin ≠ 0 then t.seqPos + 1 else t.seqPos }
  else { t with timer := t.timer - 1 }

/-- One step of the noise shift register: bit 0 and the tap (bit 6 in mode 1, else bit 1) feed bit 14 (R408). -/
def stepLfsr (mode : Bool) (l : BitVec 15) : BitVec 15 :=
  let fb := l.getLsbD 0 ^^ (if mode then l.getLsbD 6 else l.getLsbD 1)
  (l >>> 1) ||| ((BitVec.ofBool fb).setWidth 15 <<< 14)

/-- The noise timer, on each APU cycle (R408). -/
def clockNoiseTimer (n : NoiseState) : NoiseState :=
  if n.timer = 0 then { n with timer := noisePeriod n.periodIndex - 1, lfsr := stepLfsr n.mode n.lfsr }
  else { n with timer := n.timer - 1 }

/-! ## The frame sequencer -/

/-- `QuarterFrame`: the envelopes and the linear counter (R386). -/
def quarterFrame (s : ApuState) : ApuState :=
  { s with
    pulse1 := { s.pulse1 with env := clockEnvelope s.pulse1.env }
    pulse2 := { s.pulse2 with env := clockEnvelope s.pulse2.env }
    triangle := clockLinear s.triangle
    noise := { s.noise with env := clockEnvelope s.noise.env } }

/-- The half-frame clock of one pulse channel: its length counter, then its sweep unit (R386). -/
def halfFramePulse (isPulse1 : Bool) (p : PulseState) : PulseState :=
  clockSweep isPulse1 { p with len := clockLength p.env.halt p.len }

/-- `HalfFrame`: the length counters and both sweep units (R386). -/
def halfFrame (s : ApuState) : ApuState :=
  { s with
    pulse1 := halfFramePulse true s.pulse1
    pulse2 := halfFramePulse false s.pulse2
    triangle := { s.triangle with len := clockLength s.triangle.control s.triangle.len }
    noise := { s.noise with len := clockLength s.noise.env.halt s.noise.len } }

/-- How many steps the sequence has: 5 in 5-step mode, else 4 (R385). -/
def frameSteps (fiveStep : Bool) : Nat := if fiveStep then 5 else 4

/-- The step clocks a quarter frame: all but step 3 of the 5-step sequence (R386). -/
def quarterAt (fiveStep : Bool) (step : Nat) : Bool := !(fiveStep && step == 3)

/-- The step clocks a half frame: steps 1 and 3, or 1 and 4 in 5-step mode (R386). -/
def halfAt (fiveStep : Bool) (step : Nat) : Bool := step == 1 || step == (if fiveStep then 4 else 3)

/-- `FrameTick` (R385): a quarter frame runs before a half frame (R386). The interrupt hook of the 4-step sequence's step 3
does nothing (R412). -/
def frameTick (s : ApuState) : ApuState :=
  let step := s.fsStep % frameSteps s.fsMode
  let s1 := if quarterAt s.fsMode step then quarterFrame s else s
  let s2 := if halfAt s.fsMode step then halfFrame s1 else s1
  { s2 with fsStep := (step + 1) % frameSteps s.fsMode }

/-- `FrameReset` (R387): in 4-step mode one quarter and one half frame run. -/
def frameReset (s : ApuState) : ApuState :=
  let s1 := { s with fsDivider := 0, fsStep := 0 }
  if s.fsMode then s1 else halfFrame (quarterFrame s1)

/-- CPU cycles from one frame-sequencer tick to the next (R385). -/
def framePeriod : Nat := 7457

/-- The $4017 countdown of one CPU cycle (R384). -/
def clockCountdown (s : ApuState) : ApuState :=
  if s.resetCountdown = 0 then s
  else if s.resetCountdown = 1 then frameReset { s with resetCountdown := 0 }
  else { s with resetCountdown := s.resetCountdown - 1 }

/-- The frame divider of one CPU cycle (R384). -/
def clockFrameDivider (s : ApuState) : ApuState :=
  if s.fsDivider + 1 = framePeriod then frameTick { s with fsDivider := 0 }
  else { s with fsDivider := s.fsDivider + 1 }

/-- The timers of one CPU cycle: the triangle's on each, the pulses' and the noise's on every second (R384). -/
def clockTimers (s : ApuState) : ApuState :=
  let s1 := { s with triangle := clockTriangleTimer s.triangle, parity := !s.parity }
  if s1.parity then s1
  else
    { s1 with
      pulse1 := clockPulseTimer s1.pulse1, pulse2 := clockPulseTimer s1.pulse2, noise := clockNoiseTimer s1.noise }

/-- `ApuCpuCycle` (R384): countdown, frame sequencer, timers. -/
def apuCycle (s : ApuState) : ApuState := clockTimers (clockFrameDivider (clockCountdown s))

/-- `ApuRun(c)`: c CPU cycles in order (R384). -/
def apuRun : Nat → ApuState → ApuState
  | 0, s => s
  | c + 1, s => apuRun c (apuCycle s)

/-! ## Outputs and mixer -/

/-- `PulseOut` (R400). -/
def pulseOut (isPulse1 : Bool) (p : PulseState) : Nat :=
  if p.len = 0 ∨ pulseMuted isPulse1 p then 0
  else (dutyTable.getD p.duty.toNat []).getD p.seqPos.toNat 0 * envVolume p.env

/-- `TriOut` (R405). -/
def triangleOut (t : TriangleState) : Nat :=
  if t.len = 0 ∨ t.lin = 0 ∨ t.period.toNat < 5 then 0 else triangleTable.getD t.seqPos.toNat 0

/-- `NoiseOut` (R409). -/
def noiseOut (n : NoiseState) : Nat := if n.len = 0 ∨ n.lfsr.getLsbD 0 then 0 else envVolume n.env

/-- The pulse group of the mixer: `95.88 / (8128 / (p1 + p2) + 100)`, 0 at silence (R410). -/
def mixPulses (p1 p2 : Nat) : Flt :=
  if p1 + p2 = 0 then Flt.zero
  else f64Div (f64 9588 100) (f64Add (f64Div (f64 8128 1) (f64 (p1 + p2) 1)) (f64 100 1))

/-- The triangle and noise group: `159.79 / (1 / (t / 8227 + n / 12241 + d / 22638) + 100)`, 0 at silence (R410). -/
def mixTnd (t n d : Nat) : Flt :=
  if t = 0 ∧ n = 0 ∧ d = 0 then Flt.zero
  else
    let sum := f64Add (f64Add (f64 t 8227) (f64 n 12241)) (f64 d 22638)
    f64Div (f64 15979 100) (f64Add (f64Div (f64 1 1) sum) (f64 100 1))

/-- `MixerSample` of four channel outputs as a binary64 number; the DMC input d is 0 (R410, R413). -/
def mixerValue (p1 p2 t n : Nat) : Flt := f64Add (mixPulses p1 p2) (mixTnd t n 0)

/-- The sample handed to the host: the mixer value rounded to binary32 (R410). -/
def mixerSample (s : ApuState) : BitVec 32 :=
  toBinary32 (mixerValue (pulseOut true s.pulse1) (pulseOut false s.pulse2) (triangleOut s.triangle) (noiseOut s.noise))

/-- The samples of `ApuRun(c)`, one at the end of each CPU cycle (R384). -/
def apuSamples : Nat → ApuState → List (BitVec 32)
  | 0, _ => []
  | c + 1, s => mixerSample (apuCycle s) :: apuSamples c (apuCycle s)

/-- Cuts a stream into full blocks of n samples: no partial block is emitted (R411). The first argument is fuel. -/
def fullBlocks : Nat → Nat → List (BitVec 32) → List (List (BitVec 32))
  | 0, _, _ => []
  | k + 1, n, l => if n = 0 ∨ l.length < n then [] else l.take n :: fullBlocks k n (l.drop n)

/-- The blocks that a sequence of mixer samples, the oldest first, has produced: the open `Resampler`, cut into blocks of the
open size (R411). They change no state of the CORE. -/
def audioBlocks (samples : List (BitVec 32)) : List (List (BitVec 32)) :=
  let stream := Config.resampler Config.cyclesPerOutputSample samples
  fullBlocks stream.length Config.audioBlockSize stream

/-- A sample as raw little-endian bytes (R411). -/
def sampleBytes (w : BitVec 32) : List Byte :=
  [w.extractLsb' 0 8, w.extractLsb' 8 8, w.extractLsb' 16 8, w.extractLsb' 24 8]

/-- A block as raw little-endian PCM bytes (R411). -/
def blockBytes (block : List (BitVec 32)) : List Byte := block.flatMap sampleBytes

/-- What an APU run hands to the host, from the samples before it and its own, both the oldest first: the full blocks that its
samples completed, in order, as bytes; no samples where it completed none (R411, log entry 15). -/
def runBlocks (before samples : List (BitVec 32)) : List (List Byte) :=
  ((audioBlocks (before ++ samples)).drop (audioBlocks before).length).map blockBytes

/-! ## Registers -/

/-- A write to the first register of a channel with an envelope: `halt`, `constVol`, `vol` (R380). -/
def writeEnvelope (v : Byte) (e : Envelope) : Envelope :=
  { e with halt := v.getLsbD 5, constVol := v.getLsbD 4, vol := v.extractLsb' 0 4 }

/-- `period[7:0] <- v` (R380). -/
def setPeriodLow (v : Byte) (period : BitVec 11) : BitVec 11 := (period.extractLsb' 8 3) ++ v

/-- `period[10:8] <- v[2:0]` (R380). -/
def setPeriodHigh (v : Byte) (period : BitVec 11) : BitVec 11 := (v.extractLsb' 0 3) ++ (period.extractLsb' 0 8)

/-- A write to register r (0 to 3) of a pulse channel (R380, $4000-$4003). -/
def writePulse (r : Nat) (v : Byte) (p : PulseState) : PulseState :=
  match r with
  | 0 => { p with duty := v.extractLsb' 6 2, env := writeEnvelope v p.env }
  | 1 => { p with
           sweepEn := v.getLsbD 7, sweepPeriod := v.extractLsb' 4 3, sweepNeg := v.getLsbD 3,
           sweepShift := v.extractLsb' 0 3, sweepReload := true }
  | 2 => { p with period := setPeriodLow v p.period }
  | _ => { p with
           period := setPeriodHigh v p.period, len := loadLength p.enabled (v.extractLsb' 3 5) p.len,
           env := { p.env with start := true }, seqPos := 0 }

/-- A write to register r (0 to 3) of the triangle (R380, $4008-$400B). -/
def writeTriangle (r : Nat) (v : Byte) (t : TriangleState) : TriangleState :=
  match r with
  | 0 => { t with control := v.getLsbD 7, linReloadValue := v.extractLsb' 0 7 }
  | 1 => t
  | 2 => { t with period := setPeriodLow v t.period }
  | _ => { t with
           period := setPeriodHigh v t.period, len := loadLength t.enabled (v.extractLsb' 3 5) t.len,
           linReload := true }

/-- A write to register r (0 to 3) of the noise channel (R380, $400C-$400F). -/
def writeNoise (r : Nat) (v : Byte) (n : NoiseState) : NoiseState :=
  match r with
  | 0 => { n with env := writeEnvelope v n.env }
  | 1 => n
  | 2 => { n with mode := v.getLsbD 7, periodIndex := v.extractLsb' 0 4 }
  | _ => { n with len := loadLength n.enabled (v.extractLsb' 3 5) n.len, env := { n.env with start := true } }

/-- A write to $4000 + r, r in 0 to $13: four registers a channel; the DMC's are ignored (R380, R413). -/
def writeChannel (r : Nat) (v : Byte) (s : ApuState) : ApuState :=
  if r < 4 then { s with pulse1 := writePulse r v s.pulse1 }
  else if r < 8 then { s with pulse2 := writePulse (r - 4) v s.pulse2 }
  else if r < 12 then { s with triangle := writeTriangle (r - 8) v s.triangle }
  else if r < 16 then { s with noise := writeNoise (r - 12) v s.noise }
  else s

/-- A disabled channel's length counter is 0 (R381). -/
def lengthWhen (enabled : Bool) (len : Byte) : Byte := if enabled then len else 0

/-- A write to $4015: the channel enables; disabling clears the length counter at once (R381). -/
def writeEnables (v : Byte) (s : ApuState) : ApuState :=
  { s with
    pulse1 := { s.pulse1 with enabled := v.getLsbD 0, len := lengthWhen (v.getLsbD 0) s.pulse1.len }
    pulse2 := { s.pulse2 with enabled := v.getLsbD 1, len := lengthWhen (v.getLsbD 1) s.pulse2.len }
    triangle := { s.triangle with enabled := v.getLsbD 2, len := lengthWhen (v.getLsbD 2) s.triangle.len }
    noise := { s.noise with enabled := v.getLsbD 3, len := lengthWhen (v.getLsbD 3) s.noise.len } }

/-- A read of $4015: the four `len > 0` bits, bits 7 to 4 read 0 (R382). It has no side effect here. -/
def apuStatus (s : ApuState) : Byte :=
  setBit (setBit (setBit (setBit 0 0 (s.pulse1.len != 0)) 1 (s.pulse2.len != 0)) 2 (s.triangle.len != 0)) 3
    (s.noise.len != 0)

/-- A write to $4017: mode and inhibit at once, the reset after `delay` CPU cycles, at once when the delay is 0 (R383). -/
def writeFrameCounter (delay : Nat) (v : Byte) (s : ApuState) : ApuState :=
  let s1 := { s with fsMode := v.getLsbD 7, irqInhibit := v.getLsbD 6, resetCountdown := delay }
  if delay = 0 then frameReset s1 else s1

end Sys2Proof.Machine
end

