-- ==== Sys2Proof/Machine/Outcome.lean ====
section
/-!
DEFINITION. The outcome of an operation of the machine: a result, a fault or a refusal. The first fault or refusal in the
order of an instruction's accesses is the one that ends the step (R331), and it leaves nothing behind (R321).
-/

namespace Sys2Proof.Machine

/-- The outcome of an operation with a result. -/
abbrev Out (α : Type) := Host.Outcome α Fault Refusal

/-- Goes on with the result; a fault or a refusal ends the whole (R321, R331). -/
def andThen {α β : Type} (o : Out α) (f : α → Out β) : Out β :=
  match o with
  | .next r => f r
  | .fault e => .fault e
  | .refused e => .refused e

end Sys2Proof.Machine
end

