-- ==== Sys2Proof/Machine/Cartridge.lean ====
section
/-!
DEFINITION. The cartridge containers: parsing an iNES file (R101, R102) and an NSF file (R121), and the NSF bootstrap
program (R453).
-/

namespace Sys2Proof.Machine

/-- Byte i of a container; only used where the container is long enough. -/
def byteAt (file : List Byte) (i : Nat) : Byte := file.getD i 0

/-- The little-endian word at byte i of a container (R65, R121). -/
def wordAt (file : List Byte) (i : Nat) : BitVec 16 := wordOf (byteAt file (i + 1)) (byteAt file i)

/-- The image of n bytes of a container from byte i on. -/
def imageAt (file : List Byte) (i n : Nat) : Image := { size := n, cells := Memory.ofBytes n (file.drop i) }

/-- `size(lo, hi, unit)`: the extended-size escape when hi is $F (R102). -/
def imageSize (lo : Byte) (hi : BitVec 4) (unit : Nat) : Nat :=
  if hi ≠ 0xF then (hi.toNat * 256 + lo.toNat) * unit
  else 2 ^ (lo.extractLsb' 2 6).toNat * ((lo.extractLsb' 0 2).toNat * 2 + 1)

/-- PRG bytes of an iNES header: byte 4 and byte 9 bits 3:0, in units of 16384 (R101, R102). -/
def prgSizeOf (file : List Byte) : Nat := imageSize (byteAt file 4) ((byteAt file 9).extractLsb' 0 4) 16384

/-- CHR bytes of an iNES header: byte 5 and byte 9 bits 7:4, in units of 8192 (R101, R102). -/
def chrSizeOf (file : List Byte) : Nat := imageSize (byteAt file 5) ((byteAt file 9).extractLsb' 4 4) 8192

/-- The 512-byte trainer is present: header byte 6 bit 2 (R101). It is skipped, not mapped. -/
def trainerSizeOf (file : List Byte) : Nat := if (byteAt file 6).getLsbD 2 then 512 else 0

/-- The iNES magic, "N E S 0x1A" (R101). -/
def nesMagic : List Byte := [0x4E, 0x45, 0x53, 0x1A]

/-- The NSF magic, "N E S M 0x1A" (R121). -/
def nsfMagic : List Byte := [0x4E, 0x45, 0x53, 0x4D, 0x1A]

/-- Parses an iNES container (R101): the magic is checked before the length (log entry 11). -/
def parseNes (file : List Byte) : Out NesFile :=
  if file.take 4 ≠ nesMagic then .fault (.containerParseError .magic)
  else if file.length < 16 + trainerSizeOf file + prgSizeOf file + chrSizeOf file then
    .fault (.containerParseError .truncated)
  else
    .next
      { prg := imageAt file (16 + trainerSizeOf file) (prgSizeOf file)
        chr := imageAt file (16 + trainerSizeOf file + prgSizeOf file) (chrSizeOf file)
        mapperId := (byteAt file 6).extractLsb' 4 4
        vertical := (byteAt file 6).getLsbD 0 }

/-- Parses an NSF container: a $80-byte header and the data (R121). -/
def parseNsf (file : List Byte) : Out NsfFile :=
  if file.take 5 ≠ nsfMagic then .fault (.containerParseError .magic)
  else if file.length < 0x80 then .fault (.containerParseError .truncated)
  else
    .next
      { load := wordAt file 0x08, init := wordAt file 0x0A, play := wordAt file 0x0C, songs := byteAt file 0x06,
        start := byteAt file 0x07, ntscSpeed := wordAt file 0x6E,
        banks0 := #v[byteAt file 0x70, byteAt file 0x71, byteAt file 0x72, byteAt file 0x73,
                     byteAt file 0x74, byteAt file 0x75, byteAt file 0x76, byteAt file 0x77]
        data := imageAt file 0x80 (file.length - 0x80) }

/-! ## The NSF bootstrap program -/

/-- The bootstrap region starts here (R79, R453). -/
def bootBase : Addr := 0x5000

/-- Some initial bank value is non-zero (R453). -/
def hasBankPrefix (f : NsfFile) : Bool := f.banks0.toList.any (· != 0)

/-- The bank prefix: `LDA #banks0[i]; STA $5FF8+i` for i = 0..7, from index i on (R453). -/
def bankPrefix : Nat → List Byte → List Byte
  | _, [] => []
  | i, b :: bs => 0xA9 :: b :: 0x8D :: BitVec.ofNat 8 (0xF8 + i) :: 0x5F :: bankPrefix (i + 1) bs

/-- The length of the bank prefix: 40 bytes, or none (R453). -/
def prefixLength (f : NsfFile) : Nat := if hasBankPrefix f then 40 else 0

/-- P, the address of the play call (R453). -/
def playCall (f : NsfFile) : Addr := bootBase + BitVec.ofNat 16 (prefixLength f + 5)

/-- S, the address of the spin instruction (R453). -/
def spinAt (f : NsfFile) : Addr := bootBase + BitVec.ofNat 16 (prefixLength f + 8)

/-- The bootstrap program for track t (R453). -/
def bootProgram (f : NsfFile) (t : Byte) : List Byte :=
  (if hasBankPrefix f then bankPrefix 0 f.banks0.toList else []) ++
  [0xA9, t] ++
  [0x20, loByte f.init, hiByte f.init] ++
  [0x20, loByte f.play, hiByte f.play] ++
  [0x4C, loByte (spinAt f), hiByte (spinAt f)]

/-- Byte i of the bootstrap region: bytes past the program read $00 (R79). -/
def bootByte (f : NsfFile) (t : Byte) (i : Nat) : Byte := (bootProgram f t).getD i 0x00

end Sys2Proof.Machine
end

