-- ==== Sys2Proof/Machine/Mapper.lean ====
section
/-!
DEFINITION. The mappers (R103 to R126): installing windows, the power-up `initialize()` of each variant, and what a CPU
write to $8000-$FFFF (or to the NSF bank registers) does.
-/

namespace Sys2Proof.Machine

/-- A PRG window of 16 KiB (R104). -/
def prgWindow : Nat := 16384

/-- A CHR window of 4 KiB (R106). -/
def chrWindow : Nat := 4096

/-- `MapPrg(lo, offset, 16384)` over an image of `size` bytes (R105). -/
def mapPrgLo (size offset : Nat) (w : Windows) : Out Windows :=
  if offset + prgWindow > size then .fault (.bankOutOfRange offset) else .next { w with prgLo := offset }

/-- `MapPrg(hi, offset, 16384)` (R105). -/
def mapPrgHi (size offset : Nat) (w : Windows) : Out Windows :=
  if offset + prgWindow > size then .fault (.bankOutOfRange offset) else .next { w with prgHi := offset }

/-- `MapPrg(both, offset, 32768)` (R105). -/
def mapPrgBoth (size offset : Nat) (w : Windows) : Out Windows :=
  if offset + 2 * prgWindow > size then .fault (.bankOutOfRange offset)
  else .next { w with prgLo := offset, prgHi := offset + prgWindow }

/-- `MapChr(0, offset, 4096)` (R106). -/
def mapChr0 (size offset : Nat) (w : Windows) : Out Windows :=
  if offset + chrWindow > size then .fault (.bankOutOfRange offset) else .next { w with chr0 := offset }

/-- `MapChr(1, offset, 4096)` (R106). -/
def mapChr1 (size offset : Nat) (w : Windows) : Out Windows :=
  if offset + chrWindow > size then .fault (.bankOutOfRange offset) else .next { w with chr1 := offset }

/-! ## MMC1 -/

/-- `control[3:2]`, the PRG mode (R115). -/
def mmc1PrgMode (r : Mmc1) : Nat := (r.control.extractLsb' 2 2).toNat

/-- `prgBank[3:0]` (R115). -/
def mmc1Bank (r : Mmc1) : Nat := (r.prgBank.extractLsb' 0 4).toNat

/-- The PRG half of `Remap()` (R116). -/
def mmc1RemapPrg (size : Nat) (r : Mmc1) (w : Windows) : Out Windows :=
  let b := mmc1Bank r
  match mmc1PrgMode r with
  | 0 => mapPrgBoth size (b / 2 * 2 * prgWindow) w
  | 1 => mapPrgBoth size (b / 2 * 2 * prgWindow) w
  | 2 => andThen (mapPrgLo size 0 w) fun w1 => mapPrgHi size (b * prgWindow) w1
  | _ => andThen (mapPrgLo size (b * prgWindow) w) fun w1 => mapPrgHi size (size - prgWindow) w1

/-- The CHR half of `Remap()`: nothing with CHR-RAM (R107, R116). -/
def mmc1RemapChr (size : Nat) (r : Mmc1) (w : Windows) : Out Windows :=
  if size = 0 then .next w
  else if r.control.getLsbD 4 = false then
    let o := (r.chrBank0 &&& 0x1E).toNat * chrWindow
    andThen (mapChr0 size o w) fun w1 => mapChr1 size (o + chrWindow) w1
  else
    andThen (mapChr0 size (r.chrBank0.toNat * chrWindow) w) fun w1 => mapChr1 size (r.chrBank1.toNat * chrWindow) w1

/-- `Remap()` (R116). -/
def mmc1Remap (f : NesFile) (r : Mmc1) (w : Windows) : Out Windows :=
  andThen (mmc1RemapPrg f.prg.size r w) fun w1 => mmc1RemapChr f.chr.size r w1

/-- The register the fifth write's address selects takes the value (R114). -/
def mmc1Commit (addr : Addr) (value : BitVec 5) (r : Mmc1) : Mmc1 :=
  if addr.toNat < 0xA000 then { r with control := value }
  else if addr.toNat < 0xC000 then { r with chrBank0 := value }
  else if addr.toNat < 0xE000 then { r with chrBank1 := value }
  else { r with prgBank := value }

/-- The value after shifting in v[0]: the first bit written ends as bit 0 (R113). -/
def mmc1ShiftIn (v : Byte) (shift : BitVec 5) : BitVec 5 :=
  (shift >>> 1) ||| ((v.extractLsb' 0 1).setWidth 5 <<< 4)

/-- MMC1 `write(addr, v)` (R112, R113, R114). -/
def mmc1Write (f : NesFile) (addr : Addr) (v : Byte) (r : Mmc1) (w : Windows) : Out (Mmc1 × Windows) :=
  if v.getLsbD 7 then .next ({ r with shift := 0, count := 0 }, w)
  else
    let value := mmc1ShiftIn v r.shift
    if r.count = 4 then
      let r1 := { mmc1Commit addr value r with shift := 0, count := 0 }
      andThen (mmc1Remap f r1 w) fun w1 => .next (r1, w1)
    else .next ({ r with shift := value, count := r.count + 1 }, w)

/-- The MMC1 registers at power-up (R117). -/
def Mmc1.reset : Mmc1 := { shift := 0, count := 0, control := 0x0C, chrBank0 := 0, chrBank1 := 0, prgBank := 0 }

/-! ## Power-up -/

/-- No window installed yet. Where initialize() sets none (all four in NSF mode, `chr0` and `chr1` with CHR-RAM) the spec gives
the offsets no value. DESIGN CHOICE: 0, which nothing reads (log entry 26). -/
def Windows.none : Windows := { prgLo := 0, prgHi := 0, chr0 := 0, chr1 := 0 }

/-- NROM's CHR rule (R109): CHR-RAM at size 0, windows at 0 and 4096 from 8192 bytes on, else a fault that records the
size (log entry 12). -/
def initChr (size : Nat) (w : Windows) : Out Windows :=
  if size = 0 then .next w
  else if size < 2 * chrWindow then .fault (.bankOutOfRange size)
  else .next { w with chr0 := 0, chr1 := chrWindow }

/-- NROM `initialize()` (R109). -/
def initNrom (f : NesFile) : Out (MapperState × Windows) :=
  if f.prg.size = prgWindow then
    andThen (initChr f.chr.size { Windows.none with prgLo := 0, prgHi := 0 }) fun w => .next (.nrom, w)
  else if f.prg.size = 2 * prgWindow then
    andThen (initChr f.chr.size { Windows.none with prgLo := 0, prgHi := prgWindow }) fun w => .next (.nrom, w)
  else .fault (.bankOutOfRange f.prg.size)

/-- MMC1 `initialize()` (R117). -/
def initMmc1 (f : NesFile) : Out (MapperState × Windows) :=
  andThen (mmc1Remap f Mmc1.reset Windows.none) fun w => .next (.mmc1 Mmc1.reset, w)

/-- UxROM `initialize()` (R119). -/
def initUxrom (f : NesFile) : Out (MapperState × Windows) :=
  andThen (mapPrgLo f.prg.size 0 Windows.none) fun w =>
  andThen (mapPrgHi f.prg.size (f.prg.size - prgWindow) w) fun w1 =>
  andThen (initChr f.chr.size w1) fun w2 => .next (.uxrom 0, w2)

/-- The mapper of a cartridge at power-up: chosen by the mapper id (R103), or the NSF virtual mapper (R122). -/
def powerUpMapper (c : Cartridge) : Out (MapperState × Windows) :=
  match c with
  | .nes f =>
    match f.mapperId.toNat with
    | 0 => initNrom f
    | 1 => initMmc1 f
    | 2 => initUxrom f
    | n => .fault (.unsupportedMapper n)
  | .nsf f => .next (.nsf f.banks0 false, Windows.none)

/-! ## write() -/

/-- A CPU write of v to addr in $8000-$FFFF in video mode (R64, R110, R112, R120). An NSF mapper in video mode is no
reachable state; it has no region there (log entry 10). -/
def mapperWrite (f : NesFile) (addr : Addr) (v : Byte) (m : MapperState) (w : Windows) : Out (MapperState × Windows) :=
  match m with
  | .nrom => .fault (.unsupportedBankSwitch addr v)
  | .mmc1 r => andThen (mmc1Write f addr v r w) fun rw => .next (.mmc1 rw.1, rw.2)
  | .uxrom _ => andThen (mapPrgLo f.prg.size (v.toNat * prgWindow) w) fun w1 => .next (.uxrom v, w1)
  | .nsf _ _ => .fault (.accessFault addr .write)

/-- `PrgRead(addr)` (R104). -/
def prgRead (f : NesFile) (w : Windows) (addr : Addr) : Byte :=
  if addr.toNat < 0xC000 then f.prg.cells.read (w.prgLo + (addr.toNat - 0x8000))
  else f.prg.cells.read (w.prgHi + (addr.toNat - 0xC000))

/-- The index into data of a read of addr in $8000-$FFFF in NSF mode (R124). -/
def nsfIndex (f : NsfFile) (banks : Vector Byte 8) (banked : Bool) (addr : Addr) : Int :=
  let off := addr.toNat - 0x8000
  if banked then ((banks[off / 4096]?.getD 0).toNat * 4096 + off % 4096 : Nat)
  else (addr.toNat : Int) - (f.load.toNat : Int)

/-- A read of addr in $8000-$FFFF in NSF mode: none outside the data (R124). -/
def nsfRead (f : NsfFile) (m : MapperState) (addr : Addr) : Option Byte :=
  match m with
  | .nsf banks banked =>
    let k := nsfIndex f banks banked addr
    if 0 ≤ k ∧ k < f.data.size then some (f.data.cells.read k.toNat) else none
  | .nrom => none
  | .mmc1 _ => none
  | .uxrom _ => none

/-- A write of v to NSF bank register i (R123). -/
def nsfBankWrite (i : Nat) (v : Byte) (m : MapperState) : MapperState :=
  match m with
  | .nsf banks _ => .nsf (banks.setIfInBounds i v) true
  | .nrom => .nrom
  | .mmc1 r => .mmc1 r
  | .uxrom b => .uxrom b

end Sys2Proof.Machine
end

