-- ==== Sys2Proof/Machine/Ppu.lean ====
section
/-!
DEFINITION. The PPU: its registers as the CPU reads and writes them (R350 to R353), the scanline sequencer (R355 to R357),
and its own address space: pattern memory and nametable translation (R106 to R108).
-/

namespace Sys2Proof.Machine

/-- Dots in a scanline (R355). -/
def dotsPerLine : Nat := 341

/-- Scanlines in a frame (R355). -/
def linesPerFrame : Nat := 262

/-- The scanline at which vblank begins (R357). -/
def vblankLine : Nat := 241

/-- The pre-render line, at which vblank ends (R357). -/
def preRenderLine : Nat := 261

/-- A PPU run in progress: the state and the two flags R356 reports. -/
structure PpuRun where
  ppu : PpuState
  nmi : Bool
  frame : Bool
deriving DecidableEq, Repr

/-- NMI enable, PPUCTRL bit 7 (R351). -/
def nmiEnabled (p : PpuState) : Bool := p.ctrl.getLsbD 7

/-- Moves the position by one dot (R355). -/
def nextPosition (scanline dot : Nat) : Nat × Nat :=
  let d := dot + 1
  let s := if d = dotsPerLine then scanline + 1 else scanline
  (if s = linesPerFrame then 0 else s, if d = dotsPerLine then 0 else d)

/-- The events on arrival at the run's position (R357). -/
def positionEvents (r : PpuRun) : PpuRun :=
  if r.ppu.scanline = vblankLine ∧ r.ppu.dot = 1 then
    { ppu := { r.ppu with vblank := true }, nmi := r.nmi || nmiEnabled r.ppu, frame := true }
  else if r.ppu.scanline = preRenderLine ∧ r.ppu.dot = 1 then
    { r with ppu := { r.ppu with vblank := false } }
  else r

/-- One dot tick (R355). -/
def dotTick (r : PpuRun) : PpuRun :=
  let pos := nextPosition r.ppu.scanline r.ppu.dot
  positionEvents { r with ppu := { r.ppu with scanline := pos.1, dot := pos.2 } }

/-- n dot ticks in order. -/
def dotTicks : Nat → PpuRun → PpuRun
  | 0, r => r
  | n + 1, r => dotTicks n (dotTick r)

/-- `PpuRun(c)`: 3 dots per CPU cycle, both flags false at the start (R356). -/
def ppuRun (c : Nat) (p : PpuState) : PpuRun := dotTicks (3 * c) { ppu := p, nmi := false, frame := false }

/-- A PPUSTATUS read returns `vblank << 7` (R353). -/
def statusByte (p : PpuState) : Byte := if p.vblank then 0x80 else 0x00

/-- What a PPUSTATUS read leaves: the vblank flag cleared (R359). -/
def clearVblank (p : PpuState) : PpuState := { p with vblank := false }

/-! ## The PPU's own address space -/

/-- `PatternRead(pa)` for pa in $0000-$1FFF: CHR-RAM where the image has no CHR bytes (R107), else window pa[12] (R106). -/
def patternRead (f : NesFile) (w : Windows) (p : PpuState) (pa : BitVec 13) : Byte :=
  if f.chr.size = 0 then p.chrRam.read pa.toNat
  else f.chr.cells.read ((if pa.getLsbD 12 then w.chr1 else w.chr0) + pa.toNat % 4096)

/-- `NtIndex(pa)`: the mirroring translation of a nametable address (R108). -/
def nametableIndex (vertical : Bool) (pa : BitVec 14) : Nat :=
  if vertical then (pa &&& 0x07FF).toNat
  else ((pa &&& 0x03FF) ||| ((pa &&& 0x0800) >>> 1)).toNat

/-- The byte of the nametable RAM at a PPU address in $2000-$3EFF (R60, R108). -/
def nametableRead (f : NesFile) (p : PpuState) (pa : BitVec 14) : Byte :=
  p.nametables.read (nametableIndex f.vertical pa)

end Sys2Proof.Machine
end

