-- ==== Sys2Proof/Machine/Ops.lean ====
section
/-!
DEFINITION. The named operations over registers and memory: the register writes, the CPU address decoder (R62, R79),
`MemRead` and `MemWrite` (R63, R64), the 16-bit reads (R66), the stack (R69), taking an interrupt (R302, R329) and
returning from one (R303).
-/

namespace Sys2Proof.Machine

/-! ## Registers -/

/-- `A <- v`. -/
def State.setA (s : State) (v : Byte) : State := { s with a := v }
/-- `X <- v`. -/
def State.setX (s : State) (v : Byte) : State := { s with x := v }
/-- `Y <- v`. -/
def State.setY (s : State) (v : Byte) : State := { s with y := v }
/-- `S <- v`. -/
def State.setSp (s : State) (v : Byte) : State := { s with sp := v }
/-- `PC <- v`. -/
def State.setPc (s : State) (v : Addr) : State := { s with pc := v }
/-- `P <- v`. -/
def State.setP (s : State) (v : Byte) : State := { s with p := v }

/-- The default PC update: past an instruction of n bytes (R11, R24). -/
def State.advance (s : State) (n : Nat) : State := s.setPc (s.pc + BitVec.ofNat 16 n)

/-! ## Memories and devices -/

/-- `ram[i] <- v`. -/
def State.setRam (s : State) (i : Nat) (v : Byte) : State := { s with ram := s.ram.write i v }
/-- `prgRam[i] <- v`, where PRG-RAM is present. -/
def State.setPrgRam (s : State) (i : Nat) (v : Byte) : State := { s with prgRam := s.prgRam.map fun m => m.write i v }
/-- Replaces the PPU. -/
def State.setPpu (s : State) (p : PpuState) : State := { s with ppu := p }
/-- Replaces the APU. -/
def State.setApu (s : State) (p : ApuState) : State := { s with apu := p }
/-- Replaces the mapper's registers and windows. -/
def State.setMapper (s : State) (m : MapperState) (w : Windows) : State := { s with mapper := m, windows := w }
/-- Replaces the controller port. -/
def State.setPad (s : State) (p : PadState) : State := { s with pad := p }
/-- Counts one open-bus draw. -/
def State.countDraw (s : State) : State := { s with drawCount := s.drawCount + 1 }

/-- An NsfFile is loaded: the decoder is R79's. -/
def State.isNsf (s : State) : Bool :=
  match s.cart with
  | .nes _ => false
  | .nsf _ => true

/-! ## The CPU address decoder -/

/-- The regions of R62 and R79. -/
inductive Region where
  /-- Internal RAM, byte i (R77). -/
  | ram (i : Nat)
  /-- PPU register r (R350). -/
  | ppu (r : Nat)
  /-- APU channel register $4000 + r (R380). -/
  | apuChannel (r : Nat)
  /-- OAM DMA, $4014 (R354). -/
  | oamDma
  /-- APU status, $4015 (R381, R382). -/
  | apuStatus
  /-- Controller port 1 and strobe, $4016 (R78). -/
  | pad1
  /-- Controller port 2 on a read, APU frame counter on a write, $4017 (R78, R383). -/
  | pad2
  /-- NSF bootstrap region, byte i (R79). -/
  | boot (i : Nat)
  /-- NSF bank register i (R79, R123). -/
  | nsfBank (i : Nat)
  /-- PRG-RAM, byte i (R32). -/
  | prgRam (i : Nat)
  /-- The cartridge, $8000-$FFFF (R104, R124). -/
  | cart
  /-- No region (R61). -/
  | unmapped
deriving DecidableEq, Repr

/-- The decoder: the one region of each address (R62; in NSF mode R79; R76). -/
def regionOf (s : State) (a : Addr) : Region :=
  let n := a.toNat
  if n < 0x2000 then .ram (n % 0x800)
  else if n < 0x4000 then if s.isNsf then .unmapped else .ppu (n % 8)
  else if n < 0x4014 then .apuChannel (n - 0x4000)
  else if n < 0x4015 then if s.isNsf then .unmapped else .oamDma
  else if n < 0x4016 then .apuStatus
  else if n < 0x4017 then .pad1
  else if n < 0x4018 then .pad2
  else if n < 0x5000 then .unmapped
  else if n < 0x5100 then if s.isNsf then .boot (n - 0x5000) else .unmapped
  else if n < 0x5FF8 then .unmapped
  else if n < 0x6000 then if s.isNsf then .nsfBank (n - 0x5FF8) else .unmapped
  else if n < 0x8000 then if s.prgRam.isSome then .prgRam (n - 0x6000) else .unmapped
  else .cart

/-- Byte i of PRG-RAM; only used where it is present. -/
def prgRamByte (s : State) (i : Nat) : Byte :=
  match s.prgRam with
  | some m => m.read i
  | none => unlistedByte

/-- The byte a read of $8000-$FFFF gives: through the windows (R104), or the NSF data, none outside them (R124). -/
def cartByte (s : State) (a : Addr) : Option Byte :=
  match s.cart with
  | .nes f => some (prgRead f s.windows a)
  | .nsf f => nsfRead f s.mapper a

/-- The byte of the bootstrap region (R79); only used in NSF mode. -/
def bootRegionByte (s : State) (i : Nat) : Byte :=
  match s.cart with
  | .nes _ => 0x00
  | .nsf f => bootByte f s.track i

/-! ## Controller port -/

/-- The open-bus bits of the next controller read, with bit 0 replaced: `(OpenBusBits & $FE) | d` (R78, log entry 4). -/
def withOpenBus (s : State) (d : Bool) : Byte := setBit (Config.openBus s.drawCount) 0 d

/-- The data bit of a $4016 read: the live A button while the strobe is set, else the shift register's bit 0 (R78). -/
def padBit (s : State) : Bool := if s.pad.strobe then s.buttons.getLsbD 0 else s.pad.shift.getLsbD 0

/-- The controller port after a $4016 read: the shift register moves unless the strobe is set (R78). -/
def padAfterRead (p : PadState) : PadState := if p.strobe then p else { p with shift := (p.shift >>> 1) ||| 0x80 }

/-- The controller port after a $4016 write: clearing the strobe takes the snapshot (R78). -/
def padAfterWrite (buttons v : Byte) (p : PadState) : PadState :=
  { strobe := v.getLsbD 0, shift := if p.strobe && !v.getLsbD 0 then buttons else p.shift }

/-! ## MemRead and MemWrite -/

/-- A PPU register read (R350): PPUSTATUS, with its side effect (R353, R359); the others are refused (R354). -/
def ppuRead (r : Nat) (a : Addr) (s : State) : Out (Byte × State) :=
  if r = 2 then .next (statusByte s.ppu, s.setPpu (clearVblank s.ppu)) else .refused (.unmodelled a .read)

/-- A PPU register write (R350): PPUCTRL, PPUMASK; PPUSTATUS ignores it; the others are refused (R354). -/
def ppuWrite (r : Nat) (a : Addr) (v : Byte) (s : State) : Out State :=
  if r = 0 then .next (s.setPpu { s.ppu with ctrl := v })
  else if r = 1 then .next (s.setPpu { s.ppu with mask := v })
  else if r = 2 then .next s
  else .refused (.unmodelled a .write)

/-- A read of $8000-$FFFF (R104, R124). -/
def cartRead (a : Addr) (s : State) : Out (Byte × State) :=
  match cartByte s a with
  | some b => .next (b, s)
  | none => .fault (.accessFault a .read)

/-- A write to $8000-$FFFF: to the mapper (R64); in NSF mode a fault (R79). -/
def cartWrite (a : Addr) (v : Byte) (s : State) : Out State :=
  match s.cart with
  | .nes f => andThen (mapperWrite f a v s.mapper s.windows) fun mw => .next (s.setMapper mw.1 mw.2)
  | .nsf _ => .fault (.accessFault a .write)

/-- `MemRead(a, 1)`: the byte and the state after the read's side effects (R63). -/
def memRead (a : Addr) (s : State) : Out (Byte × State) :=
  match regionOf s a with
  | .ram i => .next (s.ram.read i, s)
  | .ppu r => ppuRead r a s
  | .apuChannel _ => .refused (.unmodelled a .read)
  | .oamDma => .refused (.unmodelled a .read)
  | .apuStatus => .next (apuStatus s.apu, s)
  | .pad1 => .next (withOpenBus s (padBit s), (s.setPad (padAfterRead s.pad)).countDraw)
  | .pad2 => .next (withOpenBus s false, s.countDraw)
  | .boot i => .next (bootRegionByte s i, s)
  | .nsfBank _ => .refused (.unmodelled a .read)
  | .prgRam i => .next (prgRamByte s i, s)
  | .cart => cartRead a s
  | .unmapped => .fault (.accessFault a .read)

/-- `MemWrite(a, 1, v)` (R64). -/
def memWrite (a : Addr) (v : Byte) (s : State) : Out State :=
  match regionOf s a with
  | .ram i => .next (s.setRam i v)
  | .ppu r => ppuWrite r a v s
  | .apuChannel r => .next (s.setApu (writeChannel r v s.apu))
  | .oamDma => .refused (.unmodelled a .write)
  | .apuStatus => .next (s.setApu (writeEnables v s.apu))
  | .pad1 => .next (s.setPad (padAfterWrite s.buttons v s.pad))
  | .pad2 => .next (s.setApu (writeFrameCounter s.params.frameResetDelay v s.apu))
  | .boot _ => .fault (.accessFault a .write)
  | .nsfBank i => .next (s.setMapper (nsfBankWrite i v s.mapper) s.windows)
  | .prgRam i => .next (s.setPrgRam i v)
  | .cart => cartWrite a v s
  | .unmapped => .fault (.accessFault a .write)

/-- `Read16(a)`: low byte first (R66). -/
def read16 (a : Addr) (s : State) : Out (Addr × State) :=
  andThen (memRead a s) fun lo =>
  andThen (memRead (a + 1) lo.2) fun hi => .next (wordOf hi.1 lo.1, hi.2)

/-- The address of the high byte of `Read16JmpInd(p)`: in p's page when the parameter says so (R66). -/
def jmpIndHigh (wraps : Bool) (p : Addr) : Addr := if wraps then wordOf (hiByte p) (loByte p + 1) else p + 1

/-- `Read16JmpInd(p)` (R66). -/
def read16JmpInd (p : Addr) (s : State) : Out (Addr × State) :=
  andThen (memRead p s) fun lo =>
  andThen (memRead (jmpIndHigh s.params.jmpIndirectPageWrap p) lo.2) fun hi => .next (wordOf hi.1 lo.1, hi.2)

/-- The byte of the zero page at z: always internal RAM, so the read has no side effect and no fault (R62). -/
def zeroPageByte (s : State) (z : Byte) : Byte := s.ram.read z.toNat

/-- `Read16ZP(z)`: the high byte from z + 1 mod 256 (R66). -/
def read16Zp (s : State) (z : Byte) : Addr := wordOf (zeroPageByte s (z + 1)) (zeroPageByte s z)

/-! ## The stack -/

/-- The RAM index of the stack byte at S: page 1 is always internal RAM (R23, R69). -/
def stackIndex (sp : Byte) : Nat := 0x100 + sp.toNat

/-- `Push(v)` (R69). -/
def push (v : Byte) (s : State) : State := (s.setRam (stackIndex s.sp) v).setSp (s.sp - 1)

/-- The byte `Pull()` returns (R69). -/
def pulled (s : State) : Byte := s.ram.read (stackIndex (s.sp + 1))

/-- The state after `Pull()` (R69). -/
def afterPull (s : State) : State := s.setSp (s.sp + 1)

/-- Pushes a 16-bit value, its high byte first, so that the low byte lies at the lower address (R300, R302, R329). -/
def push16 (w : Addr) (s : State) : State := push (loByte w) (push (hiByte w) s)

/-- The 16-bit value that two pulls return, low byte first (R301, R303). -/
def pulled16 (s : State) : Addr := wordOf (pulled (afterPull s)) (pulled s)

/-- The state after two pulls. -/
def afterPull16 (s : State) : State := afterPull (afterPull s)

/-! ## Interrupts -/

/-- The NMI vector (R326). -/
def nmiVector : Addr := 0xFFFA
/-- The RESET vector (R326). -/
def resetVector : Addr := 0xFFFC
/-- The IRQ and BRK vector (R326). -/
def brkVector : Addr := 0xFFFE

/-- The two B bits of P (R25). -/
def bMask : Byte := 0x30

/-- Taking an interrupt (R302, R329): pushes the return address and the given copy of P, sets I, and goes where the
vector says. BRK and NMI differ in the three arguments. -/
def takeInterrupt (ret : Addr) (pushedP : Byte) (vector : Addr) (s : State) : Out State :=
  let s1 := push pushedP (push16 ret s)
  let s2 := s1.setP (setBit s1.p 2 true)
  andThen (read16 vector s2) fun r => .next (r.2.setPc r.1)

/-- `P <- (v & $CF) | (P & $30)`: a pulled status keeps the CPU's own B bits (R26). -/
def pulledStatus (v p : Byte) : Byte := (v &&& ~~~bMask) ||| (p &&& bMask)

/-- Returning from an interrupt: P, then PC (R303, R333). -/
def returnFromInterrupt (s : State) : State :=
  let s1 := (afterPull s).setP (pulledStatus (pulled s) s.p)
  (afterPull16 s1).setPc (pulled16 s1)

/-- The NMI entry (R329): PC unchanged as the return address, B4 = 0 and B5 = 1 in the pushed copy, 7 cycles. -/
def nmiEntry (s : State) : Out State :=
  andThen (takeInterrupt s.pc ((s.p &&& 0xEF) ||| 0x20) nmiVector s) fun s1 =>
    .next { s1 with nmiPending := false, cycles := s1.cycles + 7 }

end Sys2Proof.Machine
end

