-- ==== Sys2Proof/Machine/Flags.lean ====
section
/-!
DEFINITION. The flags (R25) and every flag computation the spec gives: `SetNZ` (R10), `AddWithCarry` (R201), `Compare`
(R207), BIT (R211), and the shifts (R241 to R244).
-/

namespace Sys2Proof.Machine

/-- P.C (R25). -/
def flagC (p : Byte) : Bool := p.getLsbD 0
/-- P.Z (R25). -/
def flagZ (p : Byte) : Bool := p.getLsbD 1
/-- P.I (R25). -/
def flagI (p : Byte) : Bool := p.getLsbD 2
/-- P.D (R25). -/
def flagD (p : Byte) : Bool := p.getLsbD 3
/-- P.V (R25). -/
def flagV (p : Byte) : Bool := p.getLsbD 6
/-- P.N (R25). -/
def flagN (p : Byte) : Bool := p.getLsbD 7

/-- `P.C <- b`. -/
def setC (b : Bool) (p : Byte) : Byte := setBit p 0 b
/-- `P.Z <- b`. -/
def setZ (b : Bool) (p : Byte) : Byte := setBit p 1 b
/-- `P.I <- b`. -/
def setI (b : Bool) (p : Byte) : Byte := setBit p 2 b
/-- `P.D <- b`. -/
def setD (b : Bool) (p : Byte) : Byte := setBit p 3 b
/-- `P.V <- b`. -/
def setV (b : Bool) (p : Byte) : Byte := setBit p 6 b
/-- `P.N <- b`. -/
def setN (b : Bool) (p : Byte) : Byte := setBit p 7 b

/-- `SetNZ(v)` (R10). -/
def setNZ (v p : Byte) : Byte := setN (v.getLsbD 7) (setZ (v == 0) p)

/-- The unsigned 9-bit sum of R201. -/
def unsignedSum (a m : Byte) (c : Bool) : Nat := a.toNat + m.toNat + c.toNat

/-- The signed sum of R201. -/
def signedSum (a m : Byte) (c : Bool) : Int := a.toInt + m.toInt + c.toNat

/-- The result of `AddWithCarry` (R201). -/
def sumResult (a m : Byte) (c : Bool) : Byte := BitVec.ofNat 8 (unsignedSum a m c)

/-- The flags of `AddWithCarry` (R201): C, V, N, Z. D plays no part (R200). -/
def sumFlags (a m p : Byte) : Byte :=
  let c := flagC p
  setNZ (sumResult a m c)
    (setV (decide (signedSum a m c < -128) || decide (signedSum a m c > 127)) (setC (decide (unsignedSum a m c ≥ 256)) p))

/-- The flags of `Compare(r, m)` (R207). -/
def compareFlags (r m p : Byte) : Byte := setNZ (r - m) (setC (decide (r.toNat ≥ m.toNat)) p)

/-- The flags of BIT (R211). -/
def bitFlags (a m p : Byte) : Byte := setV (m.getLsbD 6) (setN (m.getLsbD 7) (setZ ((a &&& m) == 0) p))

/-- What a shift or rotate makes of its operand: the result and the carry out (R241 to R244). -/
structure Shifted where
  result : Byte
  carry : Bool
deriving DecidableEq, Repr

/-- ASL (R241). -/
def shiftAsl (v : Byte) : Shifted := { result := v <<< 1, carry := v.getLsbD 7 }
/-- LSR (R242). -/
def shiftLsr (v : Byte) : Shifted := { result := v >>> 1, carry := v.getLsbD 0 }
/-- ROL: the prior carry enters bit 0 (R243). -/
def shiftRol (c : Bool) (v : Byte) : Shifted := { result := setBit (v <<< 1) 0 c, carry := v.getLsbD 7 }
/-- ROR: the prior carry enters bit 7 (R244). -/
def shiftRor (c : Bool) (v : Byte) : Shifted := { result := setBit (v >>> 1) 7 c, carry := v.getLsbD 0 }

/-- The flags of a shift or rotate: C, N, Z (R240). -/
def shiftFlags (r : Shifted) (p : Byte) : Byte := setNZ r.result (setC r.carry p)

end Sys2Proof.Machine
end

