-- ==== Sys2Proof/Machine/Operands.lean ====
section
/-!
DEFINITION. The operand forms (R143 to R155): the effective address of each mode, the page-crossing predicate, and the
shapes of instruction over them: one that reads its operand, one that stores, one that reads, modifies and writes.
-/

namespace Sys2Proof.Machine

/-! ## Effective addresses -/

/-- zp (R146). -/
def eaZp (b : Byte) : Addr := zext16 b
/-- zp,X: the sum wraps in the zero page (R147). -/
def eaZpX (b : Byte) (s : State) : Addr := zext16 (b + s.x)
/-- zp,Y: the sum wraps in the zero page (R148). -/
def eaZpY (b : Byte) (s : State) : Addr := zext16 (b + s.y)
/-- abs (R149). -/
def eaAbs (w : Addr) : Addr := w
/-- abs,X (R150). -/
def eaAbsX (w : Addr) (s : State) : Addr := w + zext16 s.x
/-- abs,Y (R151). -/
def eaAbsY (w : Addr) (s : State) : Addr := w + zext16 s.y
/-- (zp,X): the pointer at (zp + X) mod 256 (R152). -/
def eaIndX (b : Byte) (s : State) : Addr := read16Zp s (b + s.x)
/-- The base of (zp),Y: the pointer at zp (R153). -/
def baseIndY (b : Byte) (s : State) : Addr := read16Zp s b
/-- (zp),Y (R153). -/
def eaIndY (b : Byte) (s : State) : Addr := baseIndY b s + zext16 s.y
/-- The address after a branch at pc (R155). -/
def branchNext (pc : Addr) : Addr := pc + 2
/-- The target of a branch at pc (R155). -/
def branchTarget (pc : Addr) (b : Byte) : Addr := branchNext pc + sext16 b

/-! ## Shapes -/

/-- An instruction of n bytes that has its operand's value: immediate, accumulator or implied (R143 to R145). -/
def withValue (v : Byte) (n : Nat) (f : Byte → State → State) (s : State) : Out State := .next ((f v s).advance n)

/-- An instruction of n bytes that reads its operand M at ea, once (R11, R170). -/
def withRead (ea : Addr) (n : Nat) (f : Byte → State → State) (s : State) : Out State :=
  andThen (memRead ea s) fun r => .next ((f r.1 r.2).advance n)

/-- An instruction of n bytes that stores v at ea and reads nothing there (R173). -/
def withStore (ea : Addr) (n : Nat) (v : Byte) (s : State) : Out State :=
  andThen (memWrite ea v s) fun s1 => .next (s1.advance n)

/-- A read-modify-write of n bytes: one read, then one write of the result, then the flags (R70, R212, R240). -/
def withModify (ea : Addr) (n : Nat) (result : Byte → Byte) (flags : Byte → Byte → Byte) (s : State) : Out State :=
  andThen (memRead ea s) fun r =>
  andThen (memWrite ea (result r.1) r.2) fun s1 => .next ((s1.setP (flags r.1 s1.p)).advance n)

/-- A branch: to the target when the condition holds, else past its two bytes (R290). -/
def branchIf (cond : Bool) (b : Byte) (s : State) : Out State :=
  .next (s.setPc (if cond then branchTarget s.pc b else branchNext s.pc))

/-- An implied instruction of one byte that changes P only (R264 to R270). -/
def withFlags (f : Byte → Byte) (s : State) : Out State := .next ((s.setP (f s.p)).advance 1)

/-! ## What an operand does to the registers -/

/-- `A <- v; SetNZ(A)`. -/
def loadA (v : Byte) (s : State) : State := (s.setA v).setP (setNZ v s.p)
/-- `X <- v; SetNZ(X)`. -/
def loadX (v : Byte) (s : State) : State := (s.setX v).setP (setNZ v s.p)
/-- `Y <- v; SetNZ(Y)`. -/
def loadY (v : Byte) (s : State) : State := (s.setY v).setP (setNZ v s.p)
/-- `A <- AddWithCarry(A, m, P.C)` (R202). -/
def addA (m : Byte) (s : State) : State := (s.setA (sumResult s.a m (flagC s.p))).setP (sumFlags s.a m s.p)
/-- `A <- AddWithCarry(A, ~m, P.C)` (R203). -/
def subA (m : Byte) (s : State) : State := addA (~~~m) s
/-- `A <- A & m; SetNZ(A)` (R204). -/
def andA (m : Byte) (s : State) : State := loadA (s.a &&& m) s
/-- `A <- A | m; SetNZ(A)` (R205). -/
def orA (m : Byte) (s : State) : State := loadA (s.a ||| m) s
/-- `A <- A ^ m; SetNZ(A)` (R206). -/
def eorA (m : Byte) (s : State) : State := loadA (s.a ^^^ m) s
/-- `Compare(A, m)` (R208). -/
def compareA (m : Byte) (s : State) : State := s.setP (compareFlags s.a m s.p)
/-- `Compare(X, m)` (R209). -/
def compareX (m : Byte) (s : State) : State := s.setP (compareFlags s.x m s.p)
/-- `Compare(Y, m)` (R210). -/
def compareY (m : Byte) (s : State) : State := s.setP (compareFlags s.y m s.p)
/-- BIT's flags (R211). -/
def bitTest (m : Byte) (s : State) : State := s.setP (bitFlags s.a m s.p)
/-- A shift or rotate of the accumulator (R240). -/
def shiftA (r : Shifted) (s : State) : State := (s.setA r.result).setP (shiftFlags r s.p)

/-- INC or DEC of memory: the result and N, Z (R212, R213). -/
def withStep (ea : Addr) (n : Nat) (delta : Byte) (s : State) : Out State :=
  withModify ea n (· + delta) (fun m p => setNZ (m + delta) p) s

/-- A shift or rotate of memory (R240). -/
def withShift (ea : Addr) (n : Nat) (shift : Byte → Shifted) (s : State) : Out State :=
  withModify ea n (fun m => (shift m).result) (fun m p => shiftFlags (shift m) p) s

end Sys2Proof.Machine
end

