-- ==== Sys2Proof/Machine/Cycles.lean ====
section
/-!
DEFINITION. Cycle costs: the base table of R463 row by row, and the page and branch penalties of R456. `CycleCost` is a
parameter of the spec (R7, D6); R463's table is its default (log entry 7).
-/

namespace Sys2Proof.Machine

/-- Row 0 of R463's table. -/
def costRow0 : List Cost :=
  [.fixed 7, .fixed 6, .unknown, .unknown, .unknown, .fixed 3, .fixed 5, .unknown, .fixed 3, .fixed 2,
   .fixed 2, .unknown, .unknown, .fixed 4, .fixed 6, .unknown]

/-- Row 1 of R463's table. -/
def costRow1 : List Cost :=
  [.branch 2, .page 5, .unknown, .unknown, .unknown, .fixed 4, .fixed 6, .unknown, .fixed 2, .page 4, .unknown,
   .unknown, .unknown, .page 4, .fixed 7, .unknown]

/-- Row 2 of R463's table. -/
def costRow2 : List Cost :=
  [.fixed 6, .fixed 6, .unknown, .unknown, .fixed 3, .fixed 3, .fixed 5, .unknown, .fixed 4, .fixed 2,
   .fixed 2, .unknown, .fixed 4, .fixed 4, .fixed 6, .unknown]

/-- Row 3 of R463's table. -/
def costRow3 : List Cost :=
  [.branch 2, .page 5, .unknown, .unknown, .unknown, .fixed 4, .fixed 6, .unknown, .fixed 2, .page 4, .unknown,
   .unknown, .unknown, .page 4, .fixed 7, .unknown]

/-- Row 4 of R463's table. -/
def costRow4 : List Cost :=
  [.fixed 6, .fixed 6, .unknown, .unknown, .unknown, .fixed 3, .fixed 5, .unknown, .fixed 3, .fixed 2,
   .fixed 2, .unknown, .fixed 3, .fixed 4, .fixed 6, .unknown]

/-- Row 5 of R463's table. -/
def costRow5 : List Cost :=
  [.branch 2, .page 5, .unknown, .unknown, .unknown, .fixed 4, .fixed 6, .unknown, .fixed 2, .page 4, .unknown,
   .unknown, .unknown, .page 4, .fixed 7, .unknown]

/-- Row 6 of R463's table. -/
def costRow6 : List Cost :=
  [.fixed 6, .fixed 6, .unknown, .unknown, .unknown, .fixed 3, .fixed 5, .unknown, .fixed 4, .fixed 2,
   .fixed 2, .unknown, .fixed 5, .fixed 4, .fixed 6, .unknown]

/-- Row 7 of R463's table. -/
def costRow7 : List Cost :=
  [.branch 2, .page 5, .unknown, .unknown, .unknown, .fixed 4, .fixed 6, .unknown, .fixed 2, .page 4, .unknown,
   .unknown, .unknown, .page 4, .fixed 7, .unknown]

/-- Row 8 of R463's table. -/
def costRow8 : List Cost :=
  [.unknown, .fixed 6, .unknown, .unknown, .fixed 3, .fixed 3, .fixed 3, .unknown, .fixed 2, .unknown,
   .fixed 2, .unknown, .fixed 4, .fixed 4, .fixed 4, .unknown]

/-- Row 9 of R463's table. -/
def costRow9 : List Cost :=
  [.branch 2, .fixed 6, .unknown, .unknown, .fixed 4, .fixed 4, .fixed 4, .unknown, .fixed 2, .fixed 5,
   .fixed 2, .unknown, .unknown, .fixed 5, .unknown, .unknown]

/-- Row A of R463's table. -/
def costRowA : List Cost :=
  [.fixed 2, .fixed 6, .fixed 2, .unknown, .fixed 3, .fixed 3, .fixed 3, .unknown, .fixed 2, .fixed 2,
   .fixed 2, .unknown, .fixed 4, .fixed 4, .fixed 4, .unknown]

/-- Row B of R463's table. -/
def costRowB : List Cost :=
  [.branch 2, .page 5, .unknown, .unknown, .fixed 4, .fixed 4, .fixed 4, .unknown, .fixed 2, .page 4, .fixed 2,
   .unknown, .page 4, .page 4, .page 4, .unknown]

/-- Row C of R463's table. -/
def costRowC : List Cost :=
  [.fixed 2, .fixed 6, .unknown, .unknown, .fixed 3, .fixed 3, .fixed 5, .unknown, .fixed 2, .fixed 2,
   .fixed 2, .unknown, .fixed 4, .fixed 4, .fixed 6, .unknown]

/-- Row D of R463's table. -/
def costRowD : List Cost :=
  [.branch 2, .page 5, .unknown, .unknown, .unknown, .fixed 4, .fixed 6, .unknown, .fixed 2, .page 4, .unknown,
   .unknown, .unknown, .page 4, .fixed 7, .unknown]

/-- Row E of R463's table. -/
def costRowE : List Cost :=
  [.fixed 2, .fixed 6, .unknown, .unknown, .fixed 3, .fixed 3, .fixed 5, .unknown, .fixed 2, .fixed 2,
   .fixed 2, .unknown, .fixed 4, .fixed 4, .fixed 6, .unknown]

/-- Row F of R463's table. -/
def costRowF : List Cost :=
  [.branch 2, .page 5, .unknown, .unknown, .unknown, .fixed 4, .fixed 6, .unknown, .fixed 2, .page 4, .unknown,
   .unknown, .unknown, .page 4, .fixed 7, .unknown]

/-- R463's table. -/
def costTable : List (List Cost) :=
  [costRow0, costRow1, costRow2, costRow3, costRow4, costRow5, costRow6, costRow7,
   costRow8, costRow9, costRowA, costRowB, costRowC, costRowD, costRowE, costRowF]

/-- The entry of an opcode in R463's table. -/
def standardCost (op : Byte) : Cost := (costTable.getD (op.toNat / 16) []).getD (op.toNat % 16) .unknown

/-- The entry of an opcode in the table in use: the parameter's, or R463's (R7, R456). -/
def costOf (params : Params) (op : Byte) : Cost :=
  match params.cycleTable with
  | none => standardCost op
  | some table => table.getD op.toNat .unknown

/-- `crossed` (R150, R151, R153, R155), of an instruction in the state it starts from. Only the modes with an index added
to a base, and a branch, can cross. -/
def pageCrossed (i : Instr) (s : State) : Bool :=
  match i.mode, i.operandBytes with
  | .absoluteX, [lo, hi] => pageDiffers (wordOf hi lo) (eaAbsX (wordOf hi lo) s)
  | .absoluteY, [lo, hi] => pageDiffers (wordOf hi lo) (eaAbsY (wordOf hi lo) s)
  | .indirectIndexed, [b] => pageDiffers (baseIndY b s) (eaIndY b s)
  | .relative, [b] => pageDiffers (branchNext s.pc) (branchTarget s.pc b)
  | _, _ => false

/-- The condition of a branch (R291 to R298); false for every other instruction. -/
def branchTaken (i : Instr) (s : State) : Bool :=
  match i.mnemonic with
  | .bcc => !flagC s.p
  | .bcs => flagC s.p
  | .beq => flagZ s.p
  | .bne => !flagZ s.p
  | .bmi => flagN s.p
  | .bpl => !flagN s.p
  | .bvc => !flagV s.p
  | .bvs => flagV s.p
  | _ => false

/-- `CycleCost(I)` (R456), of an instruction in the state it starts from. -/
def cycleCost (i : Instr) (s : State) : Nat :=
  match costOf s.params i.opcode with
  | .fixed n => n
  | .page n => n + (pageCrossed i s).toNat
  | .branch n => n + if branchTaken i s then 1 + (pageCrossed i s).toNat else 0
  | .unknown => 0

end Sys2Proof.Machine
end

