-- ==== Sys2Proof/Machine/ArithLogic.lean ====
section
/-!
DEFINITION. The meanings of the arithmetic, logic, compare, bit test and increments (41_arith_logic.md), one definition per row of
the opcode table over the shapes of Operands.lean. A fault or a refusal of an access is the instruction's.
-/

namespace Sys2Proof.Machine

/-- ADC # (R202). -/
def execAdcImm (b : Byte) (s : State) : Out State := withValue b 2 addA s

/-- ADC zp (R202). -/
def execAdcZp (b : Byte) (s : State) : Out State := withRead (eaZp b) 2 addA s

/-- ADC zp,X (R202). -/
def execAdcZpX (b : Byte) (s : State) : Out State := withRead (eaZpX b s) 2 addA s

/-- ADC abs (R202). -/
def execAdcAbs (w : Addr) (s : State) : Out State := withRead (eaAbs w) 3 addA s

/-- ADC abs,X (R202). -/
def execAdcAbsX (w : Addr) (s : State) : Out State := withRead (eaAbsX w s) 3 addA s

/-- ADC abs,Y (R202). -/
def execAdcAbsY (w : Addr) (s : State) : Out State := withRead (eaAbsY w s) 3 addA s

/-- ADC (zp,X) (R202). -/
def execAdcIndX (b : Byte) (s : State) : Out State := withRead (eaIndX b s) 2 addA s

/-- ADC (zp),Y (R202). -/
def execAdcIndY (b : Byte) (s : State) : Out State := withRead (eaIndY b s) 2 addA s

/-- SBC # (R203). -/
def execSbcImm (b : Byte) (s : State) : Out State := withValue b 2 subA s

/-- SBC zp (R203). -/
def execSbcZp (b : Byte) (s : State) : Out State := withRead (eaZp b) 2 subA s

/-- SBC zp,X (R203). -/
def execSbcZpX (b : Byte) (s : State) : Out State := withRead (eaZpX b s) 2 subA s

/-- SBC abs (R203). -/
def execSbcAbs (w : Addr) (s : State) : Out State := withRead (eaAbs w) 3 subA s

/-- SBC abs,X (R203). -/
def execSbcAbsX (w : Addr) (s : State) : Out State := withRead (eaAbsX w s) 3 subA s

/-- SBC abs,Y (R203). -/
def execSbcAbsY (w : Addr) (s : State) : Out State := withRead (eaAbsY w s) 3 subA s

/-- SBC (zp,X) (R203). -/
def execSbcIndX (b : Byte) (s : State) : Out State := withRead (eaIndX b s) 2 subA s

/-- SBC (zp),Y (R203). -/
def execSbcIndY (b : Byte) (s : State) : Out State := withRead (eaIndY b s) 2 subA s

/-- AND # (R204). -/
def execAndImm (b : Byte) (s : State) : Out State := withValue b 2 andA s

/-- AND zp (R204). -/
def execAndZp (b : Byte) (s : State) : Out State := withRead (eaZp b) 2 andA s

/-- AND zp,X (R204). -/
def execAndZpX (b : Byte) (s : State) : Out State := withRead (eaZpX b s) 2 andA s

/-- AND abs (R204). -/
def execAndAbs (w : Addr) (s : State) : Out State := withRead (eaAbs w) 3 andA s

/-- AND abs,X (R204). -/
def execAndAbsX (w : Addr) (s : State) : Out State := withRead (eaAbsX w s) 3 andA s

/-- AND abs,Y (R204). -/
def execAndAbsY (w : Addr) (s : State) : Out State := withRead (eaAbsY w s) 3 andA s

/-- AND (zp,X) (R204). -/
def execAndIndX (b : Byte) (s : State) : Out State := withRead (eaIndX b s) 2 andA s

/-- AND (zp),Y (R204). -/
def execAndIndY (b : Byte) (s : State) : Out State := withRead (eaIndY b s) 2 andA s

/-- ORA # (R205). -/
def execOraImm (b : Byte) (s : State) : Out State := withValue b 2 orA s

/-- ORA zp (R205). -/
def execOraZp (b : Byte) (s : State) : Out State := withRead (eaZp b) 2 orA s

/-- ORA zp,X (R205). -/
def execOraZpX (b : Byte) (s : State) : Out State := withRead (eaZpX b s) 2 orA s

/-- ORA abs (R205). -/
def execOraAbs (w : Addr) (s : State) : Out State := withRead (eaAbs w) 3 orA s

/-- ORA abs,X (R205). -/
def execOraAbsX (w : Addr) (s : State) : Out State := withRead (eaAbsX w s) 3 orA s

/-- ORA abs,Y (R205). -/
def execOraAbsY (w : Addr) (s : State) : Out State := withRead (eaAbsY w s) 3 orA s

/-- ORA (zp,X) (R205). -/
def execOraIndX (b : Byte) (s : State) : Out State := withRead (eaIndX b s) 2 orA s

/-- ORA (zp),Y (R205). -/
def execOraIndY (b : Byte) (s : State) : Out State := withRead (eaIndY b s) 2 orA s

/-- EOR # (R206). -/
def execEorImm (b : Byte) (s : State) : Out State := withValue b 2 eorA s

/-- EOR zp (R206). -/
def execEorZp (b : Byte) (s : State) : Out State := withRead (eaZp b) 2 eorA s

/-- EOR zp,X (R206). -/
def execEorZpX (b : Byte) (s : State) : Out State := withRead (eaZpX b s) 2 eorA s

/-- EOR abs (R206). -/
def execEorAbs (w : Addr) (s : State) : Out State := withRead (eaAbs w) 3 eorA s

/-- EOR abs,X (R206). -/
def execEorAbsX (w : Addr) (s : State) : Out State := withRead (eaAbsX w s) 3 eorA s

/-- EOR abs,Y (R206). -/
def execEorAbsY (w : Addr) (s : State) : Out State := withRead (eaAbsY w s) 3 eorA s

/-- EOR (zp,X) (R206). -/
def execEorIndX (b : Byte) (s : State) : Out State := withRead (eaIndX b s) 2 eorA s

/-- EOR (zp),Y (R206). -/
def execEorIndY (b : Byte) (s : State) : Out State := withRead (eaIndY b s) 2 eorA s

/-- CMP # (R208). -/
def execCmpImm (b : Byte) (s : State) : Out State := withValue b 2 compareA s

/-- CMP zp (R208). -/
def execCmpZp (b : Byte) (s : State) : Out State := withRead (eaZp b) 2 compareA s

/-- CMP zp,X (R208). -/
def execCmpZpX (b : Byte) (s : State) : Out State := withRead (eaZpX b s) 2 compareA s

/-- CMP abs (R208). -/
def execCmpAbs (w : Addr) (s : State) : Out State := withRead (eaAbs w) 3 compareA s

/-- CMP abs,X (R208). -/
def execCmpAbsX (w : Addr) (s : State) : Out State := withRead (eaAbsX w s) 3 compareA s

/-- CMP abs,Y (R208). -/
def execCmpAbsY (w : Addr) (s : State) : Out State := withRead (eaAbsY w s) 3 compareA s

/-- CMP (zp,X) (R208). -/
def execCmpIndX (b : Byte) (s : State) : Out State := withRead (eaIndX b s) 2 compareA s

/-- CMP (zp),Y (R208). -/
def execCmpIndY (b : Byte) (s : State) : Out State := withRead (eaIndY b s) 2 compareA s

/-- CPX # (R209). -/
def execCpxImm (b : Byte) (s : State) : Out State := withValue b 2 compareX s

/-- CPX zp (R209). -/
def execCpxZp (b : Byte) (s : State) : Out State := withRead (eaZp b) 2 compareX s

/-- CPX abs (R209). -/
def execCpxAbs (w : Addr) (s : State) : Out State := withRead (eaAbs w) 3 compareX s

/-- CPY # (R210). -/
def execCpyImm (b : Byte) (s : State) : Out State := withValue b 2 compareY s

/-- CPY zp (R210). -/
def execCpyZp (b : Byte) (s : State) : Out State := withRead (eaZp b) 2 compareY s

/-- CPY abs (R210). -/
def execCpyAbs (w : Addr) (s : State) : Out State := withRead (eaAbs w) 3 compareY s

/-- BIT zp (R211). -/
def execBitZp (b : Byte) (s : State) : Out State := withRead (eaZp b) 2 bitTest s

/-- BIT abs (R211). -/
def execBitAbs (w : Addr) (s : State) : Out State := withRead (eaAbs w) 3 bitTest s

/-- INC zp (R212). -/
def execIncZp (b : Byte) (s : State) : Out State := withStep (eaZp b) 2 1 s

/-- INC zp,X (R212). -/
def execIncZpX (b : Byte) (s : State) : Out State := withStep (eaZpX b s) 2 1 s

/-- INC abs (R212). -/
def execIncAbs (w : Addr) (s : State) : Out State := withStep (eaAbs w) 3 1 s

/-- INC abs,X (R212). -/
def execIncAbsX (w : Addr) (s : State) : Out State := withStep (eaAbsX w s) 3 1 s

/-- DEC zp (R213). -/
def execDecZp (b : Byte) (s : State) : Out State := withStep (eaZp b) 2 (-1) s

/-- DEC zp,X (R213). -/
def execDecZpX (b : Byte) (s : State) : Out State := withStep (eaZpX b s) 2 (-1) s

/-- DEC abs (R213). -/
def execDecAbs (w : Addr) (s : State) : Out State := withStep (eaAbs w) 3 (-1) s

/-- DEC abs,X (R213). -/
def execDecAbsX (w : Addr) (s : State) : Out State := withStep (eaAbsX w s) 3 (-1) s

/-- INX (R214). -/
def execInx (s : State) : Out State := withValue (s.x + 1) 1 loadX s

/-- INY (R215). -/
def execIny (s : State) : Out State := withValue (s.y + 1) 1 loadY s

/-- DEX (R216). -/
def execDex (s : State) : Out State := withValue (s.x - 1) 1 loadX s

/-- DEY (R217). -/
def execDey (s : State) : Out State := withValue (s.y - 1) 1 loadY s

end Sys2Proof.Machine
end

