-- ==== Sys2Proof/Machine/Control.lean ====
section
/-!
DEFINITION. The meanings of the branches, jumps, subroutines, BRK and RTI (44_control.md), one definition per row of
the opcode table over the shapes of Operands.lean. A fault or a refusal of an access is the instruction's.
-/

namespace Sys2Proof.Machine

/-- BCC (R291). -/
def execBcc (b : Byte) (s : State) : Out State := branchIf (!flagC s.p) b s

/-- BCS (R292). -/
def execBcs (b : Byte) (s : State) : Out State := branchIf (flagC s.p) b s

/-- BEQ (R293). -/
def execBeq (b : Byte) (s : State) : Out State := branchIf (flagZ s.p) b s

/-- BNE (R294). -/
def execBne (b : Byte) (s : State) : Out State := branchIf (!flagZ s.p) b s

/-- BMI (R295). -/
def execBmi (b : Byte) (s : State) : Out State := branchIf (flagN s.p) b s

/-- BPL (R296). -/
def execBpl (b : Byte) (s : State) : Out State := branchIf (!flagN s.p) b s

/-- BVC (R297). -/
def execBvc (b : Byte) (s : State) : Out State := branchIf (!flagV s.p) b s

/-- BVS (R298). -/
def execBvs (b : Byte) (s : State) : Out State := branchIf (flagV s.p) b s

/-- JMP abs (R299). -/
def execJmpAbs (w : Addr) (s : State) : Out State := .next (s.setPc w)

/-- JMP (abs) (R299). -/
def execJmpInd (w : Addr) (s : State) : Out State := andThen (read16JmpInd w s) fun r => .next (r.2.setPc r.1)

/-- JSR abs (R300): pushes PC + 2, the address of its last byte. -/
def execJsr (w : Addr) (s : State) : Out State := .next ((push16 (s.pc + 2) s).setPc w)

/-- RTS (R301): PC is the pulled word + 1. -/
def execRts (s : State) : Out State := .next ((afterPull16 s).setPc (pulled16 s + 1))

/-- BRK (R302): pushes PC + 2 and P with both B bits set, sets I, jumps through $FFFE. -/
def execBrk (s : State) : Out State := takeInterrupt (s.pc + 2) (s.p ||| bMask) brkVector s

/-- RTI (R303): P keeps its own B bits, PC without + 1. -/
def execRti (s : State) : Out State := .next (returnFromInterrupt s)

end Sys2Proof.Machine
end

