-- ==== Sys2Proof/Machine/LoadStore.lean ====
section
/-!
DEFINITION. The meanings of the loads, stores and register transfers (40_load_store_transfer.md), one definition per row of
the opcode table over the shapes of Operands.lean. A fault or a refusal of an access is the instruction's.
-/

namespace Sys2Proof.Machine

/-- LDA # (R170). -/
def execLdaImm (b : Byte) (s : State) : Out State := withValue b 2 loadA s

/-- LDA zp (R170). -/
def execLdaZp (b : Byte) (s : State) : Out State := withRead (eaZp b) 2 loadA s

/-- LDA zp,X (R170). -/
def execLdaZpX (b : Byte) (s : State) : Out State := withRead (eaZpX b s) 2 loadA s

/-- LDA abs (R170). -/
def execLdaAbs (w : Addr) (s : State) : Out State := withRead (eaAbs w) 3 loadA s

/-- LDA abs,X (R170). -/
def execLdaAbsX (w : Addr) (s : State) : Out State := withRead (eaAbsX w s) 3 loadA s

/-- LDA abs,Y (R170). -/
def execLdaAbsY (w : Addr) (s : State) : Out State := withRead (eaAbsY w s) 3 loadA s

/-- LDA (zp,X) (R170). -/
def execLdaIndX (b : Byte) (s : State) : Out State := withRead (eaIndX b s) 2 loadA s

/-- LDA (zp),Y (R170). -/
def execLdaIndY (b : Byte) (s : State) : Out State := withRead (eaIndY b s) 2 loadA s

/-- LDX # (R171). -/
def execLdxImm (b : Byte) (s : State) : Out State := withValue b 2 loadX s

/-- LDX zp (R171). -/
def execLdxZp (b : Byte) (s : State) : Out State := withRead (eaZp b) 2 loadX s

/-- LDX zp,Y (R171). -/
def execLdxZpY (b : Byte) (s : State) : Out State := withRead (eaZpY b s) 2 loadX s

/-- LDX abs (R171). -/
def execLdxAbs (w : Addr) (s : State) : Out State := withRead (eaAbs w) 3 loadX s

/-- LDX abs,Y (R171). -/
def execLdxAbsY (w : Addr) (s : State) : Out State := withRead (eaAbsY w s) 3 loadX s

/-- LDY # (R172). -/
def execLdyImm (b : Byte) (s : State) : Out State := withValue b 2 loadY s

/-- LDY zp (R172). -/
def execLdyZp (b : Byte) (s : State) : Out State := withRead (eaZp b) 2 loadY s

/-- LDY zp,X (R172). -/
def execLdyZpX (b : Byte) (s : State) : Out State := withRead (eaZpX b s) 2 loadY s

/-- LDY abs (R172). -/
def execLdyAbs (w : Addr) (s : State) : Out State := withRead (eaAbs w) 3 loadY s

/-- LDY abs,X (R172). -/
def execLdyAbsX (w : Addr) (s : State) : Out State := withRead (eaAbsX w s) 3 loadY s

/-- STA zp (R173). -/
def execStaZp (b : Byte) (s : State) : Out State := withStore (eaZp b) 2 s.a s

/-- STA zp,X (R173). -/
def execStaZpX (b : Byte) (s : State) : Out State := withStore (eaZpX b s) 2 s.a s

/-- STA abs (R173). -/
def execStaAbs (w : Addr) (s : State) : Out State := withStore (eaAbs w) 3 s.a s

/-- STA abs,X (R173). -/
def execStaAbsX (w : Addr) (s : State) : Out State := withStore (eaAbsX w s) 3 s.a s

/-- STA abs,Y (R173). -/
def execStaAbsY (w : Addr) (s : State) : Out State := withStore (eaAbsY w s) 3 s.a s

/-- STA (zp,X) (R173). -/
def execStaIndX (b : Byte) (s : State) : Out State := withStore (eaIndX b s) 2 s.a s

/-- STA (zp),Y (R173). -/
def execStaIndY (b : Byte) (s : State) : Out State := withStore (eaIndY b s) 2 s.a s

/-- STX zp (R174). -/
def execStxZp (b : Byte) (s : State) : Out State := withStore (eaZp b) 2 s.x s

/-- STX zp,Y (R174). -/
def execStxZpY (b : Byte) (s : State) : Out State := withStore (eaZpY b s) 2 s.x s

/-- STX abs (R174). -/
def execStxAbs (w : Addr) (s : State) : Out State := withStore (eaAbs w) 3 s.x s

/-- STY zp (R175). -/
def execStyZp (b : Byte) (s : State) : Out State := withStore (eaZp b) 2 s.y s

/-- STY zp,X (R175). -/
def execStyZpX (b : Byte) (s : State) : Out State := withStore (eaZpX b s) 2 s.y s

/-- STY abs (R175). -/
def execStyAbs (w : Addr) (s : State) : Out State := withStore (eaAbs w) 3 s.y s

/-- TAX (R176). -/
def execTax (s : State) : Out State := withValue s.a 1 loadX s

/-- TAY (R177). -/
def execTay (s : State) : Out State := withValue s.a 1 loadY s

/-- TXA (R178). -/
def execTxa (s : State) : Out State := withValue s.x 1 loadA s

/-- TYA (R179). -/
def execTya (s : State) : Out State := withValue s.y 1 loadA s

/-- TSX (R180). -/
def execTsx (s : State) : Out State := withValue s.sp 1 loadX s

/-- TXS (R181): no flag. -/
def execTxs (s : State) : Out State := .next ((s.setSp s.x).advance 1)

end Sys2Proof.Machine
end

