-- ==== Sys2Proof/Machine/ShiftRotate.lean ====
section
/-!
DEFINITION. The meanings of the shifts and rotates (42_shift_rotate.md), one definition per row of
the opcode table over the shapes of Operands.lean. A fault or a refusal of an access is the instruction's.
-/

namespace Sys2Proof.Machine

/-- ASL A (R241). -/
def execAslAcc (s : State) : Out State := .next ((shiftA (shiftAsl s.a) s).advance 1)

/-- ASL zp (R241). -/
def execAslZp (b : Byte) (s : State) : Out State := withShift (eaZp b) 2 shiftAsl s

/-- ASL zp,X (R241). -/
def execAslZpX (b : Byte) (s : State) : Out State := withShift (eaZpX b s) 2 shiftAsl s

/-- ASL abs (R241). -/
def execAslAbs (w : Addr) (s : State) : Out State := withShift (eaAbs w) 3 shiftAsl s

/-- ASL abs,X (R241). -/
def execAslAbsX (w : Addr) (s : State) : Out State := withShift (eaAbsX w s) 3 shiftAsl s

/-- LSR A (R242). -/
def execLsrAcc (s : State) : Out State := .next ((shiftA (shiftLsr s.a) s).advance 1)

/-- LSR zp (R242). -/
def execLsrZp (b : Byte) (s : State) : Out State := withShift (eaZp b) 2 shiftLsr s

/-- LSR zp,X (R242). -/
def execLsrZpX (b : Byte) (s : State) : Out State := withShift (eaZpX b s) 2 shiftLsr s

/-- LSR abs (R242). -/
def execLsrAbs (w : Addr) (s : State) : Out State := withShift (eaAbs w) 3 shiftLsr s

/-- LSR abs,X (R242). -/
def execLsrAbsX (w : Addr) (s : State) : Out State := withShift (eaAbsX w s) 3 shiftLsr s

/-- ROL A (R243). -/
def execRolAcc (s : State) : Out State := .next ((shiftA (shiftRol (flagC s.p) s.a) s).advance 1)

/-- ROL zp (R243). -/
def execRolZp (b : Byte) (s : State) : Out State := withShift (eaZp b) 2 (shiftRol (flagC s.p)) s

/-- ROL zp,X (R243). -/
def execRolZpX (b : Byte) (s : State) : Out State := withShift (eaZpX b s) 2 (shiftRol (flagC s.p)) s

/-- ROL abs (R243). -/
def execRolAbs (w : Addr) (s : State) : Out State := withShift (eaAbs w) 3 (shiftRol (flagC s.p)) s

/-- ROL abs,X (R243). -/
def execRolAbsX (w : Addr) (s : State) : Out State := withShift (eaAbsX w s) 3 (shiftRol (flagC s.p)) s

/-- ROR A (R244). -/
def execRorAcc (s : State) : Out State := .next ((shiftA (shiftRor (flagC s.p) s.a) s).advance 1)

/-- ROR zp (R244). -/
def execRorZp (b : Byte) (s : State) : Out State := withShift (eaZp b) 2 (shiftRor (flagC s.p)) s

/-- ROR zp,X (R244). -/
def execRorZpX (b : Byte) (s : State) : Out State := withShift (eaZpX b s) 2 (shiftRor (flagC s.p)) s

/-- ROR abs (R244). -/
def execRorAbs (w : Addr) (s : State) : Out State := withShift (eaAbs w) 3 (shiftRor (flagC s.p)) s

/-- ROR abs,X (R244). -/
def execRorAbsX (w : Addr) (s : State) : Out State := withShift (eaAbsX w s) 3 (shiftRor (flagC s.p)) s

end Sys2Proof.Machine
end

