-- ==== Sys2Proof/Machine/StackFlags.lean ====
section
/-!
DEFINITION. The meanings of the stack, flag and no-operation instructions (43_stack_flags.md), one definition per row of
the opcode table over the shapes of Operands.lean. A fault or a refusal of an access is the instruction's.
-/

namespace Sys2Proof.Machine

/-- PHA (R260). -/
def execPha (s : State) : Out State := .next ((push s.a s).advance 1)

/-- PLA (R261). -/
def execPla (s : State) : Out State := withValue (pulled s) 1 loadA (afterPull s)

/-- PHP (R262): the pushed copy has both B bits set. -/
def execPhp (s : State) : Out State := .next ((push (s.p ||| bMask) s).advance 1)

/-- PLP (R263): P keeps its own B bits. -/
def execPlp (s : State) : Out State := .next (((afterPull s).setP (pulledStatus (pulled s) s.p)).advance 1)

/-- CLC (R264). -/
def execClc (s : State) : Out State := withFlags (setC false) s

/-- SEC (R265). -/
def execSec (s : State) : Out State := withFlags (setC true) s

/-- CLI (R266). -/
def execCli (s : State) : Out State := withFlags (setI false) s

/-- SEI (R267). -/
def execSei (s : State) : Out State := withFlags (setI true) s

/-- CLV (R268). -/
def execClv (s : State) : Out State := withFlags (setV false) s

/-- CLD (R269). -/
def execCld (s : State) : Out State := withFlags (setD false) s

/-- SED (R270). -/
def execSed (s : State) : Out State := withFlags (setD true) s

/-- NOP (R271): only PC. -/
def execNop (s : State) : Out State := .next (s.advance 1)

end Sys2Proof.Machine
end

