-- ==== Sys2Proof/Machine/Fetch.lean ====
section
/-!
DEFINITION. Instruction fetch: `Fetch(addr)` reads code regions only and has no side effect (R68); the opcode is fetched
first, then exactly the operand bytes its row has (R141, R331). Also placing a byte of code, for `withFetchWord`.
-/

namespace Sys2Proof.Machine

/-- `Fetch(addr)`: the byte of a code region, none outside all of them (R68, C15). -/
def codeByte (s : State) (a : Addr) : Option Byte :=
  match regionOf s a with
  | .ram i => some (s.ram.read i)
  | .prgRam i => some (prgRamByte s i)
  | .boot i => some (bootRegionByte s i)
  | .cart => cartByte s a
  | .ppu _ | .apuChannel _ | .oamDma | .apuStatus | .pad1 | .pad2 | .nsfBank _ | .unmapped => none

/-- `Fetch(addr)` with its fault (R68). -/
def fetchByte (s : State) (a : Addr) : Out Byte :=
  match codeByte s a with
  | some b => .next b
  | none => .fault (.pcOutOfRange a)

/-- Fetches n bytes from a on, in order, wrapping past $FFFF (R68). -/
def fetchBytes (s : State) : Nat → Addr → Out (List Byte)
  | 0, _ => .next []
  | n + 1, a => andThen (fetchByte s a) fun b => andThen (fetchBytes s n (a + 1)) fun bs => .next (b :: bs)

/-- The instruction at PC (R141): the opcode; an unknown one faults before any operand fetch (R157); then its operand
bytes. The decoder takes what was fetched; that the bytes do not fit the row cannot happen with R156's table (R158). -/
def fetchInstr (s : State) : Out Instr :=
  andThen (fetchByte s s.pc) fun op =>
  match formOf op with
  | none => .fault (.unknownOpcode s.pc op)
  | some f =>
    andThen (fetchBytes s f.operandCount (s.pc + 1)) fun bs =>
    match decode (op :: bs) with
    | .ok (i, _) => .next i
    | .error _ => .fault (.operandCountMismatch op)

/-! ## Placing code -/

/-- The image with byte i replaced. -/
def Image.set (im : Image) (i : Nat) (v : Byte) : Image := { im with cells := im.cells.write i v }

/-- The offset into prg of addr in $8000-$FFFF (R104). -/
def prgOffset (w : Windows) (a : Addr) : Nat :=
  if a.toNat < 0xC000 then w.prgLo + (a.toNat - 0x8000) else w.prgHi + (a.toNat - 0xC000)

/-- The cartridge with the byte that a fetch of addr in $8000-$FFFF reads replaced; unchanged where a fetch of addr reads
none. -/
def cartWithByte (s : State) (a : Addr) (v : Byte) : Cartridge :=
  match s.cart with
  | .nes f => .nes { f with prg := f.prg.set (prgOffset s.windows a) v }
  | .nsf f =>
    match s.mapper with
    | .nsf banks banked =>
      let k := nsfIndex f banks banked a
      if 0 ≤ k ∧ k < f.data.size then .nsf { f with data := f.data.set k.toNat v } else .nsf f
    | .nrom | .mmc1 _ | .uxrom _ => .nsf f

/-- Places a byte where a fetch of addr reads it: RAM, PRG-RAM or the cartridge image. The bootstrap region is computed
from the cartridge and cannot be written, and outside the code regions there is no byte to place (log entry 18). -/
def placeCode (a : Addr) (v : Byte) (s : State) : State :=
  match regionOf s a with
  | .ram i => s.setRam i v
  | .prgRam i => s.setPrgRam i v
  | .cart => { s with cart := cartWithByte s a v }
  | .boot _ | .ppu _ | .apuChannel _ | .oamDma | .apuStatus | .pad1 | .pad2 | .nsfBank _ | .unmapped => s

/-- Places bytes from a on. -/
def placeBytes : Addr → List Byte → State → State
  | _, [], s => s
  | a, b :: bs, s => placeBytes (a + 1) bs (placeCode a b s)

end Sys2Proof.Machine
end

