-- ==== Sys2Proof/Machine/PowerUp.lean ====
section
/-!
DEFINITION. Power-up (R450 to R453): the mapper's initialize(), the value of every state element, and PC; and loading a
cartridge from its container bytes.
-/

namespace Sys2Proof.Machine

/-- Every state element after power-up (R451), with PC not yet set. The host's side (its coming moves, the buttons, the
count of draws) is kept from `before` (log entry 21). -/
def powerUpState (before : State) (c : Cartridge) (t : Byte) (d : Draws) (mw : MapperState × Windows) : State :=
  { a := d.a, x := d.x, y := d.y, sp := 0xFD, pc := 0x0000, p := 0x34, cycles := 0, run := .running,
    nmiPending := false, ram := Memory.ofBytes 2048 d.ram,
    prgRam := if before.params.prgRamPresent then some (Memory.ofBytes 8192 d.prgRam) else none,
    ppu := PpuState.reset (Memory.ofBytes 8192 d.chrRam) (Memory.ofBytes 2048 d.nametables),
    apu := ApuState.reset, mapper := mw.1, windows := mw.2, pad := { strobe := false, shift := 0 },
    cart := c, track := t, params := before.params, reachedPlay := false, buttons := before.buttons,
    hostQueue := before.hostQueue, drawCount := before.drawCount, out := { frame := false, samples := [] },
    audio := [] }

/-- PC at power-up: the RESET vector through the map that initialize() left (R452), or the NSF bootstrap (R453). -/
def setStartPc (s : State) : Out State :=
  match s.cart with
  | .nes _ => andThen (read16 resetVector s) fun r => .next (r.2.setPc r.1)
  | .nsf _ => .next (s.setPc bootBase)

/-- Power-up of a parsed cartridge with track t and the given draws (R450, steps 2 to 4). -/
def powerUp (before : State) (c : Cartridge) (t : Byte) (d : Draws) : Out State :=
  andThen (powerUpMapper c) fun mw => setStartPc (powerUpState before c t d mw)

/-- Loads an iNES container: a fresh power-up (R450, R459). -/
def loadNes (file : List Byte) (d : Draws) (s : State) : Out State :=
  andThen (parseNes file) fun f => powerUp s (.nes f) 0 d

/-- Loads an NSF container: a fresh power-up with the track start - 1 (R453, R459). -/
def loadNsf (file : List Byte) (d : Draws) (s : State) : Out State :=
  andThen (parseNsf file) fun f => powerUp s (.nsf f) (f.start - 1) d

/-- The NSF track change: a fresh NSF boot with the new track (R454). Without an NsfFile there is no track: nothing
changes (log entry 21). -/
def changeTrack (t : Byte) (d : Draws) (s : State) : Out State :=
  match s.cart with
  | .nes _ => .next s
  | .nsf f => powerUp s (.nsf f) t d

/-- Draws of zeros. -/
def Draws.zero : Draws := { a := 0, x := 0, y := 0, ram := [], prgRam := [], chrRam := [], nametables := [] }

end Sys2Proof.Machine
end

