-- ==== Sys2Proof/Machine/System.lean ====
section
/-!
DEFINITION. The system step (R455): the NMI entry or one instruction, its cycles, then the devices; the host's moves
between steps (R459); and what a fault or a refusal does to the run state (R320, R321, R323).
-/

namespace Sys2Proof.Machine

/-- The PPU's part of a step of c cycles; in NSF mode there is no PPU (R455). -/
def ppuAdvance (c : Nat) (s : State) : PpuRun :=
  if s.isNsf then { ppu := s.ppu, nmi := false, frame := false } else ppuRun c s.ppu

/-- The host's note that PC has reached the play call, made at the boundary a step ends at (R454). -/
def playReached (s : State) : Bool :=
  match s.cart with
  | .nes _ => s.reachedPlay
  | .nsf f => s.reachedPlay || s.pc == playCall f

/-- The devices advance by the c cycles the step consumed (R455, R457), the NMI latch takes the PPU's report (R360), and
the host gets the frame report and the samples (R361, R410), which join those since power-up (R411). -/
def advanceDevices (c : Nat) (s : State) : State :=
  let r := ppuAdvance c s
  { s with
    ppu := r.ppu, apu := apuRun c s.apu, nmiPending := s.nmiPending || r.nmi, reachedPlay := playReached s,
    out := { frame := r.frame, samples := apuSamples c s.apu }, audio := (apuSamples c s.apu).reverse ++ s.audio }

/-- What the host gets back for the last system step it granted (R459): the frame report, and the audio blocks that the step's
run of the APU returned, none or full ones, as bytes (R411). It is read off the state and changes none of it. -/
def grantReturns (s : State) : Bool × List (List Byte) :=
  (s.out.frame, runBlocks (s.audio.drop s.out.samples.length).reverse s.out.samples)

/-- `cycles <- cycles + c` (R28). -/
def addCycles (c : Nat) (s : State) : State := { s with cycles := s.cycles + c }

/-- One instruction with its cycles and the devices' advance (R455). -/
def instructionStep (i : Instr) (s : State) : Out State :=
  andThen (exec i s) fun s1 => .next (advanceDevices (cycleCost i s) (addCycles (cycleCost i s) s1))

/-- The cycles of an NMI entry (R464). -/
def nmiCycles : Nat := 7

/-- `SystemStep` (R455): a pending NMI is entered before any instruction (R331). -/
def systemStep (s : State) : Out State :=
  if s.nmiPending then andThen (nmiEntry s) fun s1 => .next (advanceDevices nmiCycles s1)
  else andThen (fetchInstr s) fun i => instructionStep i s

/-- The host may end the run where a budget is set and exceeded (R324); else the move does nothing (log entry 22). -/
def endOnBudget (s : State) : State :=
  if s.params.cycleBudget ≠ 0 ∧ s.params.cycleBudget < s.cycles then { s with run := .terminated } else s

/-- The NSF play timer forces PC to the play call once it has been reached (R454); else the move does nothing (log entry
20). -/
def playTimer (s : State) : State :=
  match s.cart with
  | .nes _ => s
  | .nsf f => if s.reachedPlay then s.setPc (playCall f) else s

/-- One move of the host at a boundary (R459). -/
def hostMove (m : HostMove) (s : State) : Out State :=
  match m with
  | .grant buttons => systemStep { s with buttons := buttons }
  | .withhold => .next s
  | .endOnBudget => .next (endOnBudget s)
  | .playTimer => .next (playTimer s)
  | .loadNes file d => loadNes file d s
  | .loadNsf file d => loadNsf file d s
  | .changeTrack t d => changeTrack t d s

/-- What happens at a boundary of a running CORE: the host's next move; with none listed, the host grants a step. -/
def boundary (s : State) : Out State :=
  match s.hostQueue with
  | [] => systemStep s
  | m :: ms => hostMove m { s with hostQueue := ms }

/-- A step of any state: only `Running` steps (R29, R331). A faulted or refused run ends as it ended; a terminated run has
no next step (R322, R323, R324). -/
def runStep (s : State) : Out State :=
  match s.run with
  | .running => boundary s
  | .faulted f => .fault f
  | .refused r => .refused r
  | .terminated => .refused .budgetExhausted

/-- The state after an outcome: a fault or a refusal leaves everything as it was but `run` (R320, R321, R323). A run that
has ended stays as it is (R322). -/
def settle (s : State) (o : Out State) : State :=
  match s.run with
  | .running =>
    match o with
    | .next t => t
    | .fault f => { s with run := .faulted f }
    | .refused r => { s with run := .refused r }
  | .faulted _ | .refused _ | .terminated => s

end Sys2Proof.Machine
end

