-- ==== Sys2Proof/Machine/Step.lean ====
section
/-!
DEFINITION. The step of the machine, and placing the next instruction. Both only call System.lean and Fetch.lean.
-/

namespace Sys2Proof.Machine

/-- One step: the host's next move, or one system step (R455, R459). -/
def step (s : State) : Host.Outcome State Fault Refusal := runStep s

/-- The state with an instruction's bytes placed where the next fetch reads them, and with nothing standing before that
fetch: the run goes on, no NMI is pending, no move of the host is listed (log entry 18). -/
def State.withFetchWord (s : State) (nbits w : Nat) : State :=
  placeBytes s.pc (tableBytes nbits w) { s with run := .running, nmiPending := false, hostQueue := [] }

end Sys2Proof.Machine
end

