-- ==== Sys2Proof/Safety.lean ====
section
/-!
DEFINITION. What statements about the machine are said in terms of: which accesses complete, how two states may differ, the
invariant of every reachable state, and what a safe run is.
-/

namespace Sys2Proof.Machine

/-! ## Accesses that complete -/

/-- A read of this address gives a byte: it neither faults nor is refused (R62, R79, R350, R124). -/
def readable (s : State) (a : Addr) : Bool :=
  match regionOf s a with
  | .ram _ | .apuStatus | .pad1 | .pad2 | .boot _ | .prgRam _ => true
  | .ppu r => r == 2
  | .cart => (cartByte s a).isSome
  | .apuChannel _ | .oamDma | .nsfBank _ | .unmapped => false

/-- The registers' windows lie inside the images (R105, R106, R116). -/
def mmc1Fits (f : NesFile) (r : Mmc1) : Bool :=
  let b := mmc1Bank r
  let prg :=
    if mmc1PrgMode r < 2 then decide ((b / 2 * 2 + 2) * 16384 ≤ f.prg.size)
    else decide (16384 ≤ f.prg.size) && decide ((b + 1) * 16384 ≤ f.prg.size)
  let chr :=
    if r.control.getLsbD 4 then
      decide ((r.chrBank0.toNat + 1) * 4096 ≤ f.chr.size) && decide ((r.chrBank1.toNat + 1) * 4096 ≤ f.chr.size)
    else decide ((r.chrBank0.toNat / 2 * 2 + 2) * 4096 ≤ f.chr.size)
  prg && (f.chr.size == 0 || chr)

/-- The mapper takes a write of v to addr in $8000-$FFFF (R110, R112, R113, R120). -/
def mapperAccepts (f : NesFile) (m : MapperState) (addr : Addr) (v : Byte) : Bool :=
  match m with
  | .nrom => false
  | .mmc1 r => v.getLsbD 7 || r.count != 4 || mmc1Fits f (mmc1Commit addr (mmc1ShiftIn v r.shift) r)
  | .uxrom _ => decide ((v.toNat + 1) * 16384 ≤ f.prg.size)
  | .nsf _ _ => false

/-- A write of v to this address completes: it neither faults nor is refused (R62, R79, R350, R64). -/
def writable (s : State) (a : Addr) (v : Byte) : Bool :=
  match regionOf s a with
  | .ram _ | .apuChannel _ | .apuStatus | .pad1 | .pad2 | .nsfBank _ | .prgRam _ => true
  | .ppu r => decide (r ≤ 2)
  | .cart =>
    match s.cart with
    | .nes f => mapperAccepts f s.mapper a v
    | .nsf _ => false
  | .oamDma | .boot _ | .unmapped => false

/-! ## How two states may differ -/

/-- A, X, Y, S and P are the same. -/
def SameRegisters (s t : State) : Prop := t.a = s.a ∧ t.x = s.x ∧ t.y = s.y ∧ t.sp = s.sp ∧ t.p = s.p

/-- What no instruction touches is the same: the cycle counter, the run state, the NMI latch, the cartridge, the track, the
parameters, the host's side, and the PPU's position. -/
def SameSurroundings (s t : State) : Prop :=
  t.cycles = s.cycles ∧ t.run = s.run ∧ t.nmiPending = s.nmiPending ∧ t.cart = s.cart ∧ t.track = s.track ∧
  t.params = s.params ∧ t.reachedPlay = s.reachedPlay ∧ t.buttons = s.buttons ∧ t.hostQueue = s.hostQueue ∧
  t.out = s.out ∧ t.audio = s.audio ∧ t.ppu.scanline = s.ppu.scanline ∧ t.ppu.dot = s.ppu.dot ∧ t.ppu.chrRam = s.ppu.chrRam ∧
  t.ppu.nametables = s.ppu.nametables

/-- The PPU, the APU, the mapper, the controller port and the count of draws are the same. -/
def SameDevices (s t : State) : Prop :=
  t.ppu = s.ppu ∧ t.apu = s.apu ∧ t.mapper = s.mapper ∧ t.windows = s.windows ∧ t.pad = s.pad ∧
  t.drawCount = s.drawCount

/-- Every byte of memory reads the same: RAM, PRG-RAM, the bootstrap region and the cartridge windows. -/
def SameBytes (s t : State) : Prop := ∀ a : Addr, codeByte t a = codeByte s a

/-- The region is one whose write moves cartridge windows: the mapper's (R64), or an NSF bank register (R123). -/
def movesWindows (r : Region) : Bool :=
  match r with
  | .cart | .nsfBank _ => true
  | .ram _ | .ppu _ | .apuChannel _ | .oamDma | .apuStatus | .pad1 | .pad2 | .boot _ | .prgRam _ | .unmapped => false

/-- Every byte of memory reads the same but the one a store to ea reaches (with its mirrors, R77); a store that moves
windows changes no byte outside $8000-$FFFF. -/
def SameBytesBut (ea : Addr) (s t : State) : Prop :=
  ∀ a : Addr, regionOf s a ≠ regionOf s ea → (movesWindows (regionOf s ea) = true → regionOf s a ≠ .cart) →
    codeByte t a = codeByte s a

/-- The devices after a read of ea: PPUSTATUS clears the vblank flag (R359), a controller read moves the port and counts a
draw (R78); everything else is the same. -/
def DevicesAfterRead (ea : Addr) (s t : State) : Prop :=
  t.apu = s.apu ∧ t.mapper = s.mapper ∧ t.windows = s.windows ∧ t.ram = s.ram ∧ t.prgRam = s.prgRam ∧
  (regionOf s ea ≠ .ppu 2 → t.ppu = s.ppu) ∧ (regionOf s ea ≠ .pad1 → t.pad = s.pad) ∧
  (regionOf s ea ≠ .pad1 → regionOf s ea ≠ .pad2 → t.drawCount = s.drawCount) ∧
  t.ppu.ctrl = s.ppu.ctrl ∧ t.ppu.mask = s.ppu.mask

/-- The region is one of the PPU's registers. -/
def isPpuRegion (r : Region) : Bool :=
  match r with
  | .ppu _ => true
  | .ram _ | .apuChannel _ | .oamDma | .apuStatus | .pad1 | .pad2 | .boot _ | .nsfBank _ | .prgRam _ | .cart
  | .unmapped => false

/-- The region is one of the APU's registers on a write. -/
def isApuRegion (r : Region) : Bool :=
  match r with
  | .apuChannel _ | .apuStatus | .pad2 => true
  | .ram _ | .ppu _ | .oamDma | .pad1 | .boot _ | .nsfBank _ | .prgRam _ | .cart | .unmapped => false

/-- The devices after a store to ea, whatever the byte: only the device the address belongs to may change. -/
def DevicesAfterStore (ea : Addr) (s t : State) : Prop :=
  (isPpuRegion (regionOf s ea) = false → t.ppu = s.ppu) ∧ (isApuRegion (regionOf s ea) = false → t.apu = s.apu) ∧
  (regionOf s ea ≠ .pad1 → t.pad = s.pad) ∧
  (movesWindows (regionOf s ea) = false → t.mapper = s.mapper ∧ t.windows = s.windows) ∧
  t.drawCount = s.drawCount

/-! ## The invariant -/

/-- The PPU's position as a dot count from (0, 0). -/
def framePosition (p : PpuState) : Nat := p.scanline * 341 + p.dot

/-- Dots in a frame (R355). -/
def dotsPerFrame : Nat := 89342

/-- What the memories of a reachable state keep: the canonical form, and their size (R32, R107, R108). -/
structure MemoryInv (s : State) : Prop where
  ram : s.ram.wf = true ∧ s.ram.below 2048 = true
  prgRam : ∀ m, s.prgRam = some m → m.wf = true ∧ m.below 8192 = true
  prgRamPresent : s.prgRam.isSome = s.params.prgRamPresent
  chrRam : s.ppu.chrRam.wf = true ∧ s.ppu.chrRam.below 8192 = true
  nametables : s.ppu.nametables.wf = true ∧ s.ppu.nametables.below 2048 = true

/-- What the PPU of a reachable state keeps: the position lies in the frame and is three dots per cycle from (0, 0) (R355,
R362); vblank is set only from (241, 1) to before (261, 1) (R357). In NSF mode the PPU stays as power-up left it and no NMI
is pending (R453). -/
structure PpuInv (s : State) : Prop where
  scanline : s.ppu.scanline < 262
  dot : s.ppu.dot < 341
  position : s.isNsf = false → framePosition s.ppu = 3 * s.cycles % dotsPerFrame
  vblank : s.ppu.vblank = true → 82182 ≤ framePosition s.ppu ∧ framePosition s.ppu < 89002
  noPpu : s.isNsf = true → s.nmiPending = false ∧ s.ppu = PpuState.reset s.ppu.chrRam s.ppu.nametables

/-- What the APU of a reachable state keeps (R385, R406, R415); the samples are one per CPU cycle since power-up, and those of
the last step are the newest (R384, R411). -/
structure ApuInv (s : State) : Prop where
  fsDivider : s.apu.fsDivider < 7457
  fsStep : s.apu.fsStep < 5
  countdown : s.apu.resetCountdown ≤ s.params.frameResetDelay
  parity : s.apu.parity = decide (s.cycles % 2 = 1)
  lfsr : s.apu.noise.lfsr ≠ 0
  noiseTimer : s.apu.noise.timer ≤ 2033
  disabled1 : s.apu.pulse1.enabled = false → s.apu.pulse1.len = 0
  disabled2 : s.apu.pulse2.enabled = false → s.apu.pulse2.len = 0
  disabledTriangle : s.apu.triangle.enabled = false → s.apu.triangle.len = 0
  disabledNoise : s.apu.noise.enabled = false → s.apu.noise.len = 0
  lengths : s.apu.pulse1.len.toNat ≤ 254 ∧ s.apu.pulse2.len.toNat ≤ 254 ∧ s.apu.triangle.len.toNat ≤ 254 ∧
    s.apu.noise.len.toNat ≤ 254
  samples : s.audio.length = s.cycles
  lastSamples : s.out.samples.reverse <+: s.audio

/-- The mapper's registers fit the cartridge, and its windows are where the registers say (R104 to R122). -/
def mapperAgrees (s : State) : Prop :=
  match s.cart, s.mapper with
  | .nes f, .nrom =>
    (f.prg.size = 16384 ∧ s.windows.prgLo = 0 ∧ s.windows.prgHi = 0) ∨
    (f.prg.size = 32768 ∧ s.windows.prgLo = 0 ∧ s.windows.prgHi = 16384)
  | .nes f, .mmc1 r => r.count ≤ 4 ∧ mmc1Remap f r s.windows = .next s.windows
  | .nes f, .uxrom b =>
    (b.toNat + 1) * 16384 ≤ f.prg.size ∧ s.windows.prgLo = b.toNat * 16384 ∧ s.windows.prgHi = f.prg.size - 16384
  | .nsf _, .nsf _ _ => True
  | _, _ => False

/-- The windows lie inside the images (R105, R106); the images are canonical and hold no byte past their size (R100). -/
def cartridgeSound (s : State) : Prop :=
  match s.cart with
  | .nes f =>
    s.windows.prgLo + 16384 ≤ f.prg.size ∧ s.windows.prgHi + 16384 ≤ f.prg.size ∧
    (f.chr.size = 0 ∨ (s.windows.chr0 + 4096 ≤ f.chr.size ∧ s.windows.chr1 + 4096 ≤ f.chr.size)) ∧
    f.prg.cells.wf = true ∧ f.prg.cells.below f.prg.size = true ∧
    f.chr.cells.wf = true ∧ f.chr.cells.below f.chr.size = true
  | .nsf f => f.data.cells.wf = true ∧ f.data.cells.below f.data.size = true

/-- The invariant of every reachable state. -/
structure Inv (s : State) : Prop where
  /-- Both B bits of P are 1 (R26). -/
  bBits : s.p &&& 0x30 = 0x30
  memory : MemoryInv s
  ppu : PpuInv s
  apu : ApuInv s
  mapper : mapperAgrees s
  cartridge : cartridgeSound s

/-! ## Safe runs -/

/-- The states a run from s reaches in any number of steps. -/
inductive Reaches (s : State) : State → Prop where
  | here : Reaches s s
  | step {t u : State} : Reaches s t → step t = .next u → Reaches s u

/-- A run from s is safe: no state it reaches stops with a fault (R322). -/
def SafeRun (s : State) : Prop := ∀ t, Reaches s t → ∀ f, step t ≠ .fault f

end Sys2Proof.Machine
end

