-- ==== Sys2Proof/Certificates/Slice0/Obligations.lean ====
section
/-!
DEFINITION. The statements for the provers. The helpers stand first, in namespace Sys2Proof.Statements: flag bytes written
as bit masks, the forms of the instructions with their opcodes, and what it means that a form reads, stores or modifies.
-/

namespace Sys2Proof.Statements
open Sys2Proof.Machine

/-! ## Flags as bit masks (R25) -/

/-- P with the bits of the mask taken from `bits`, the others kept. -/
def replaceFlags (mask bits p : Byte) : Byte := (p &&& ~~~mask) ||| (bits &&& mask)

/-- N (bit 7) and Z (bit 1) of a result (R10). -/
def nzBits (v : Byte) : Byte := (v &&& 0x80) ||| (if v = 0 then 0x02 else 0x00)

/-- C (bit 0). -/
def cBit (c : Bool) : Byte := if c then 0x01 else 0x00

/-- V (bit 6). -/
def vBit (o : Bool) : Byte := if o then 0x40 else 0x00

/-- `SetNZ(v)` (R10). -/
def nzFlags (v p : Byte) : Byte := replaceFlags 0x82 (nzBits v) p

/-- `SetNZ(v); P.C <- c`. -/
def nzcFlags (v : Byte) (c : Bool) (p : Byte) : Byte := replaceFlags 0x83 (nzBits v ||| cBit c) p

/-- `SetNZ(v); P.C <- c; P.V <- o`. -/
def nvzcFlags (v : Byte) (c o : Bool) (p : Byte) : Byte := replaceFlags 0xC3 (nzBits v ||| cBit c ||| vBit o) p

/-- P.C as a number. -/
def carryIn (p : Byte) : Nat := p.toNat % 2

/-! ## Forms -/

/-- A form that reaches memory: its opcode, the instruction, the effective address in the state it starts from, and its
length in bytes. -/
structure MemForm where
  opcode : Byte
  instr : Instr
  ea : Addr
  len : Nat

/-- The form has its opcode. -/
def HasOpcode (f : MemForm) : Prop := (encode f.instr).head? = some f.opcode ∧ (encode f.instr).length = f.len

/-- PC past the form. -/
def pcAfter (f : MemForm) (s : State) : Addr := s.pc + BitVec.ofNat 16 f.len

/-- The immediate form: its encoding, and its next state in every state. `result` is given the operand, the state the
instruction starts from, and the state after the operand is read (the same one here). -/
def Immediate (opcode : Byte) (i : Byte → Instr) (result : Byte → State → State → State) : Prop :=
  ∀ (b : Byte) (s : State),
    encode (i b) = [opcode, b] ∧ exec (i b) s = .next { result b s s with pc := s.pc + 2 }

/-- A form that reads its operand once: where the address is readable it completes with the result of the byte read; a
fault or a refusal of the read is the instruction's. -/
def ReadsAs (f : MemForm) (s : State) (result : Byte → State → State → State) : Prop :=
  HasOpcode f ∧
  (readable s f.ea = true →
    ∃ m s1, memRead f.ea s = .next (m, s1) ∧ exec f.instr s = .next { result m s s1 with pc := pcAfter f s }) ∧
  (∀ e, memRead f.ea s = .fault e → exec f.instr s = .fault e) ∧
  (∀ r, memRead f.ea s = .refused r → exec f.instr s = .refused r)

/-- Every one of the forms reads its operand. -/
def Reads (forms : Byte → Addr → State → List MemForm) (result : Byte → State → State → State) : Prop :=
  ∀ (b : Byte) (w : Addr) (s : State), ∀ f ∈ forms b w s, ReadsAs f s result

/-- A form that stores v: where the address is writable it completes, P and the registers kept; a fault or a refusal of the
write is the instruction's. -/
def StoresAs (f : MemForm) (s : State) (v : Byte) : Prop :=
  HasOpcode f ∧
  (writable s f.ea v = true →
    ∃ s1, memWrite f.ea v s = .next s1 ∧ exec f.instr s = .next { s1 with pc := pcAfter f s }) ∧
  (∀ e, memWrite f.ea v s = .fault e → exec f.instr s = .fault e) ∧
  (∀ r, memWrite f.ea v s = .refused r → exec f.instr s = .refused r)

/-- Every one of the forms stores the register. -/
def Stores (forms : Byte → Addr → State → List MemForm) (register : State → Byte) : Prop :=
  ∀ (b : Byte) (w : Addr) (s : State), ∀ f ∈ forms b w s, StoresAs f s (register s)

/-- A read-modify-write form: one read of m, one write of `result m`, then the flags; it completes where the address is
readable and the result may be written there; a fault or a refusal of the read and a fault of the write are the
instruction's; where the read was not refused, no write is. -/
def ModifiesAs (f : MemForm) (s : State) (result : Byte → Byte) (flags : Byte → Byte → Byte) : Prop :=
  HasOpcode f ∧
  (readable s f.ea = true → ∃ m s1, memRead f.ea s = .next (m, s1) ∧
    (writable s f.ea (result m) = true → ∃ s2, memWrite f.ea (result m) s1 = .next s2 ∧
      exec f.instr s = .next { s2 with p := flags m s.p, pc := pcAfter f s }) ∧
    (∀ e, memWrite f.ea (result m) s1 = .fault e → exec f.instr s = .fault e) ∧
    (∀ r, memWrite f.ea (result m) s1 ≠ .refused r)) ∧
  (∀ e, memRead f.ea s = .fault e → exec f.instr s = .fault e) ∧
  (∀ r, memRead f.ea s = .refused r → exec f.instr s = .refused r)

/-- Every one of the forms is a read-modify-write. `result` and `flags` are given the state the instruction starts from. -/
def Modifies (forms : Byte → Addr → State → List MemForm) (result : State → Byte → Byte)
    (flags : State → Byte → Byte → Byte) : Prop :=
  ∀ (b : Byte) (w : Addr) (s : State), ∀ f ∈ forms b w s, ModifiesAs f s (result s) (flags s)

/-- An instruction of one byte that always completes. -/
def OneByte (opcode : Byte) (i : Instr) (result : State → State) : Prop :=
  ∀ s : State, encode i = [opcode] ∧ exec i s = .next { result s with pc := s.pc + 1 }

/-- The forms of LDA that reach memory (R170). -/
def ldaForms (b : Byte) (w : Addr) (s : State) : List MemForm :=
  [⟨0xA5, .ldaZp b, eaZp b, 2⟩, ⟨0xB5, .ldaZpX b, eaZpX b s, 2⟩, ⟨0xAD, .ldaAbs w, eaAbs w, 3⟩,
   ⟨0xBD, .ldaAbsX w, eaAbsX w s, 3⟩, ⟨0xB9, .ldaAbsY w, eaAbsY w s, 3⟩, ⟨0xA1, .ldaIndX b, eaIndX b s, 2⟩,
   ⟨0xB1, .ldaIndY b, eaIndY b s, 2⟩]

/-- The forms of LDX that reach memory (R171). -/
def ldxForms (b : Byte) (w : Addr) (s : State) : List MemForm :=
  [⟨0xA6, .ldxZp b, eaZp b, 2⟩, ⟨0xB6, .ldxZpY b, eaZpY b s, 2⟩, ⟨0xAE, .ldxAbs w, eaAbs w, 3⟩,
   ⟨0xBE, .ldxAbsY w, eaAbsY w s, 3⟩]

/-- The forms of LDY that reach memory (R172). -/
def ldyForms (b : Byte) (w : Addr) (s : State) : List MemForm :=
  [⟨0xA4, .ldyZp b, eaZp b, 2⟩, ⟨0xB4, .ldyZpX b, eaZpX b s, 2⟩, ⟨0xAC, .ldyAbs w, eaAbs w, 3⟩,
   ⟨0xBC, .ldyAbsX w, eaAbsX w s, 3⟩]

/-- The forms of STA that reach memory (R173). -/
def staForms (b : Byte) (w : Addr) (s : State) : List MemForm :=
  [⟨0x85, .staZp b, eaZp b, 2⟩, ⟨0x95, .staZpX b, eaZpX b s, 2⟩, ⟨0x8D, .staAbs w, eaAbs w, 3⟩,
   ⟨0x9D, .staAbsX w, eaAbsX w s, 3⟩, ⟨0x99, .staAbsY w, eaAbsY w s, 3⟩, ⟨0x81, .staIndX b, eaIndX b s, 2⟩,
   ⟨0x91, .staIndY b, eaIndY b s, 2⟩]

/-- The forms of STX that reach memory (R174). -/
def stxForms (b : Byte) (w : Addr) (s : State) : List MemForm :=
  [⟨0x86, .stxZp b, eaZp b, 2⟩, ⟨0x96, .stxZpY b, eaZpY b s, 2⟩, ⟨0x8E, .stxAbs w, eaAbs w, 3⟩]

/-- The forms of STY that reach memory (R175). -/
def styForms (b : Byte) (w : Addr) (s : State) : List MemForm :=
  [⟨0x84, .styZp b, eaZp b, 2⟩, ⟨0x94, .styZpX b, eaZpX b s, 2⟩, ⟨0x8C, .styAbs w, eaAbs w, 3⟩]

/-- The forms of ADC that reach memory (R202). -/
def adcForms (b : Byte) (w : Addr) (s : State) : List MemForm :=
  [⟨0x65, .adcZp b, eaZp b, 2⟩, ⟨0x75, .adcZpX b, eaZpX b s, 2⟩, ⟨0x6D, .adcAbs w, eaAbs w, 3⟩,
   ⟨0x7D, .adcAbsX w, eaAbsX w s, 3⟩, ⟨0x79, .adcAbsY w, eaAbsY w s, 3⟩, ⟨0x61, .adcIndX b, eaIndX b s, 2⟩,
   ⟨0x71, .adcIndY b, eaIndY b s, 2⟩]

/-- The forms of SBC that reach memory (R203). -/
def sbcForms (b : Byte) (w : Addr) (s : State) : List MemForm :=
  [⟨0xE5, .sbcZp b, eaZp b, 2⟩, ⟨0xF5, .sbcZpX b, eaZpX b s, 2⟩, ⟨0xED, .sbcAbs w, eaAbs w, 3⟩,
   ⟨0xFD, .sbcAbsX w, eaAbsX w s, 3⟩, ⟨0xF9, .sbcAbsY w, eaAbsY w s, 3⟩, ⟨0xE1, .sbcIndX b, eaIndX b s, 2⟩,
   ⟨0xF1, .sbcIndY b, eaIndY b s, 2⟩]

/-- The forms of AND that reach memory (R204). -/
def andForms (b : Byte) (w : Addr) (s : State) : List MemForm :=
  [⟨0x25, .andZp b, eaZp b, 2⟩, ⟨0x35, .andZpX b, eaZpX b s, 2⟩, ⟨0x2D, .andAbs w, eaAbs w, 3⟩,
   ⟨0x3D, .andAbsX w, eaAbsX w s, 3⟩, ⟨0x39, .andAbsY w, eaAbsY w s, 3⟩, ⟨0x21, .andIndX b, eaIndX b s, 2⟩,
   ⟨0x31, .andIndY b, eaIndY b s, 2⟩]

/-- The forms of ORA that reach memory (R205). -/
def oraForms (b : Byte) (w : Addr) (s : State) : List MemForm :=
  [⟨0x05, .oraZp b, eaZp b, 2⟩, ⟨0x15, .oraZpX b, eaZpX b s, 2⟩, ⟨0x0D, .oraAbs w, eaAbs w, 3⟩,
   ⟨0x1D, .oraAbsX w, eaAbsX w s, 3⟩, ⟨0x19, .oraAbsY w, eaAbsY w s, 3⟩, ⟨0x01, .oraIndX b, eaIndX b s, 2⟩,
   ⟨0x11, .oraIndY b, eaIndY b s, 2⟩]

/-- The forms of EOR that reach memory (R206). -/
def eorForms (b : Byte) (w : Addr) (s : State) : List MemForm :=
  [⟨0x45, .eorZp b, eaZp b, 2⟩, ⟨0x55, .eorZpX b, eaZpX b s, 2⟩, ⟨0x4D, .eorAbs w, eaAbs w, 3⟩,
   ⟨0x5D, .eorAbsX w, eaAbsX w s, 3⟩, ⟨0x59, .eorAbsY w, eaAbsY w s, 3⟩, ⟨0x41, .eorIndX b, eaIndX b s, 2⟩,
   ⟨0x51, .eorIndY b, eaIndY b s, 2⟩]

/-- The forms of CMP that reach memory (R208). -/
def cmpForms (b : Byte) (w : Addr) (s : State) : List MemForm :=
  [⟨0xC5, .cmpZp b, eaZp b, 2⟩, ⟨0xD5, .cmpZpX b, eaZpX b s, 2⟩, ⟨0xCD, .cmpAbs w, eaAbs w, 3⟩,
   ⟨0xDD, .cmpAbsX w, eaAbsX w s, 3⟩, ⟨0xD9, .cmpAbsY w, eaAbsY w s, 3⟩, ⟨0xC1, .cmpIndX b, eaIndX b s, 2⟩,
   ⟨0xD1, .cmpIndY b, eaIndY b s, 2⟩]

/-- The forms of CPX that reach memory (R209). -/
def cpxForms (b : Byte) (w : Addr) (_s : State) : List MemForm :=
  [⟨0xE4, .cpxZp b, eaZp b, 2⟩, ⟨0xEC, .cpxAbs w, eaAbs w, 3⟩]

/-- The forms of CPY that reach memory (R210). -/
def cpyForms (b : Byte) (w : Addr) (_s : State) : List MemForm :=
  [⟨0xC4, .cpyZp b, eaZp b, 2⟩, ⟨0xCC, .cpyAbs w, eaAbs w, 3⟩]

/-- The forms of BIT that reach memory (R211). -/
def bitForms (b : Byte) (w : Addr) (_s : State) : List MemForm :=
  [⟨0x24, .bitZp b, eaZp b, 2⟩, ⟨0x2C, .bitAbs w, eaAbs w, 3⟩]

/-- The forms of INC that reach memory (R212). -/
def incForms (b : Byte) (w : Addr) (s : State) : List MemForm :=
  [⟨0xE6, .incZp b, eaZp b, 2⟩, ⟨0xF6, .incZpX b, eaZpX b s, 2⟩, ⟨0xEE, .incAbs w, eaAbs w, 3⟩,
   ⟨0xFE, .incAbsX w, eaAbsX w s, 3⟩]

/-- The forms of DEC that reach memory (R213). -/
def decForms (b : Byte) (w : Addr) (s : State) : List MemForm :=
  [⟨0xC6, .decZp b, eaZp b, 2⟩, ⟨0xD6, .decZpX b, eaZpX b s, 2⟩, ⟨0xCE, .decAbs w, eaAbs w, 3⟩,
   ⟨0xDE, .decAbsX w, eaAbsX w s, 3⟩]

/-- The forms of ASL that reach memory (R241). -/
def aslForms (b : Byte) (w : Addr) (s : State) : List MemForm :=
  [⟨0x06, .aslZp b, eaZp b, 2⟩, ⟨0x16, .aslZpX b, eaZpX b s, 2⟩, ⟨0x0E, .aslAbs w, eaAbs w, 3⟩,
   ⟨0x1E, .aslAbsX w, eaAbsX w s, 3⟩]

/-- The forms of LSR that reach memory (R242). -/
def lsrForms (b : Byte) (w : Addr) (s : State) : List MemForm :=
  [⟨0x46, .lsrZp b, eaZp b, 2⟩, ⟨0x56, .lsrZpX b, eaZpX b s, 2⟩, ⟨0x4E, .lsrAbs w, eaAbs w, 3⟩,
   ⟨0x5E, .lsrAbsX w, eaAbsX w s, 3⟩]

/-- The forms of ROL that reach memory (R243). -/
def rolForms (b : Byte) (w : Addr) (s : State) : List MemForm :=
  [⟨0x26, .rolZp b, eaZp b, 2⟩, ⟨0x36, .rolZpX b, eaZpX b s, 2⟩, ⟨0x2E, .rolAbs w, eaAbs w, 3⟩,
   ⟨0x3E, .rolAbsX w, eaAbsX w s, 3⟩]

/-- The forms of ROR that reach memory (R244). -/
def rorForms (b : Byte) (w : Addr) (s : State) : List MemForm :=
  [⟨0x66, .rorZp b, eaZp b, 2⟩, ⟨0x76, .rorZpX b, eaZpX b s, 2⟩, ⟨0x6E, .rorAbs w, eaAbs w, 3⟩,
   ⟨0x7E, .rorAbsX w, eaAbsX w s, 3⟩]

/-! ## Addition, subtraction, comparison and shifts as integers -/

/-- The result of ADC: the sum modulo 256. -/
def adcResult (a m : Byte) (c : Nat) : Byte := BitVec.ofNat 8 (a.toNat + m.toNat + c)

/-- The result of SBC: `A - M - (1 - C)` modulo 256. -/
def sbcResult (a m : Byte) (c : Nat) : Byte := BitVec.ofInt 8 ((a.toNat : Int) - m.toNat - (1 - c))

/-- An integer lies outside the signed bytes. -/
def outOfRange (t : Int) : Bool := decide (t < -128) || decide (127 < t)

/-- P after ADC (R201). -/
def adcFlags (a m p : Byte) : Byte :=
  nvzcFlags (adcResult a m (carryIn p)) (decide (256 ≤ a.toNat + m.toNat + carryIn p))
    (outOfRange (a.toInt + m.toInt + carryIn p)) p

/-- P after SBC (R203): C is 1 where nothing is borrowed. -/
def sbcFlags (a m p : Byte) : Byte :=
  nvzcFlags (sbcResult a m (carryIn p)) (decide (0 ≤ (a.toNat : Int) - m.toNat - (1 - carryIn p)))
    (outOfRange (a.toInt - m.toInt - (1 - carryIn p))) p

/-- P after a compare (R207). -/
def cmpFlags (r m p : Byte) : Byte := nzcFlags (r - m) (decide (m.toNat ≤ r.toNat)) p

/-- The results and carries of the shifts and rotates (R241 to R244), `c` the prior carry. -/
def aslResult (v : Byte) : Byte := BitVec.ofNat 8 (2 * v.toNat)
def lsrResult (v : Byte) : Byte := BitVec.ofNat 8 (v.toNat / 2)
def rolResult (c : Nat) (v : Byte) : Byte := BitVec.ofNat 8 (2 * v.toNat + c)
def rorResult (c : Nat) (v : Byte) : Byte := BitVec.ofNat 8 (v.toNat / 2 + 128 * c)

/-- Bit 7 of v. -/
def topBit (v : Byte) : Bool := decide (128 ≤ v.toNat)
/-- Bit 0 of v. -/
def lowBit (v : Byte) : Bool := decide (v.toNat % 2 = 1)

/-- The two bytes as a word, `hi : lo` (R8). -/
def word (hi lo : Byte) : Addr := BitVec.ofNat 16 (hi.toNat * 256 + lo.toNat)

/-- The RAM index of the stack byte `$0100 + S` (R69). -/
def stackByteAt (s : Byte) : Nat := 256 + s.toNat

end Sys2Proof.Statements

open Sys2Proof Sys2Proof.Machine Sys2Proof.Statements

/-! ## Loads, stores and transfers -/

/-- R170 to R172: LDA, LDX and LDY in every form. -/
def Obligations.LoadsFillTheirRegister : Prop :=
  (Immediate 0xA9 .ldaImm (fun m s s1 => { s1 with a := m, p := nzFlags m s.p }) ∧
    Reads ldaForms (fun m s s1 => { s1 with a := m, p := nzFlags m s.p })) ∧
  (Immediate 0xA2 .ldxImm (fun m s s1 => { s1 with x := m, p := nzFlags m s.p }) ∧
    Reads ldxForms (fun m s s1 => { s1 with x := m, p := nzFlags m s.p })) ∧
  (Immediate 0xA0 .ldyImm (fun m s s1 => { s1 with y := m, p := nzFlags m s.p }) ∧
    Reads ldyForms (fun m s s1 => { s1 with y := m, p := nzFlags m s.p }))

/-- R173 to R175: STA, STX and STY in every form; the store writes no register and no flag. -/
def Obligations.StoresWriteTheirRegister : Prop :=
  Stores staForms (·.a) ∧ Stores stxForms (·.x) ∧ Stores styForms (·.y)

/-- R176 to R181: the transfers; TXS alone writes no flag. -/
def Obligations.TransfersCopyRegisters : Prop :=
  OneByte 0xAA .tax (fun s => { s with x := s.a, p := nzFlags s.a s.p }) ∧
  OneByte 0xA8 .tay (fun s => { s with y := s.a, p := nzFlags s.a s.p }) ∧
  OneByte 0x8A .txa (fun s => { s with a := s.x, p := nzFlags s.x s.p }) ∧
  OneByte 0x98 .tya (fun s => { s with a := s.y, p := nzFlags s.y s.p }) ∧
  OneByte 0xBA .tsx (fun s => { s with x := s.sp, p := nzFlags s.sp s.p }) ∧
  OneByte 0x9A .txs (fun s => { s with sp := s.x })

/-! ## Arithmetic and logic -/

/-- R201, R202: ADC in every form adds M and the carry, binary whatever D holds; V is 1 exactly where A and the result, and
M and the result, differ in bit 7. -/
def Obligations.AdcAddsWithCarry : Prop :=
  (Immediate 0x69 .adcImm (fun m s s1 => { s1 with a := adcResult s.a m (carryIn s.p), p := adcFlags s.a m s.p }) ∧
    Reads adcForms (fun m s s1 => { s1 with a := adcResult s.a m (carryIn s.p), p := adcFlags s.a m s.p })) ∧
  ∀ a m p : Byte, outOfRange (a.toInt + m.toInt + carryIn p) =
    ((a ^^^ adcResult a m (carryIn p)) &&& (m ^^^ adcResult a m (carryIn p))).getLsbD 7

/-- R203: SBC in every form gives `A - M - (1 - C)`; C is 1 where nothing is borrowed, V where the signed difference leaves
[-128, 127]; and it is ADC of the complement of M. -/
def Obligations.SbcSubtractsWithBorrow : Prop :=
  (Immediate 0xE9 .sbcImm (fun m s s1 => { s1 with a := sbcResult s.a m (carryIn s.p), p := sbcFlags s.a m s.p }) ∧
    Reads sbcForms (fun m s s1 => { s1 with a := sbcResult s.a m (carryIn s.p), p := sbcFlags s.a m s.p })) ∧
  ∀ a m p : Byte, sbcResult a m (carryIn p) = adcResult a (~~~m) (carryIn p) ∧ sbcFlags a m p = adcFlags a (~~~m) p

/-- R204 to R206: AND, ORA and EOR in every form. -/
def Obligations.LogicCombinesBits : Prop :=
  (Immediate 0x29 .andImm (fun m s s1 => { s1 with a := s.a &&& m, p := nzFlags (s.a &&& m) s.p }) ∧
    Reads andForms (fun m s s1 => { s1 with a := s.a &&& m, p := nzFlags (s.a &&& m) s.p })) ∧
  (Immediate 0x09 .oraImm (fun m s s1 => { s1 with a := s.a ||| m, p := nzFlags (s.a ||| m) s.p }) ∧
    Reads oraForms (fun m s s1 => { s1 with a := s.a ||| m, p := nzFlags (s.a ||| m) s.p })) ∧
  (Immediate 0x49 .eorImm (fun m s s1 => { s1 with a := s.a ^^^ m, p := nzFlags (s.a ^^^ m) s.p }) ∧
    Reads eorForms (fun m s s1 => { s1 with a := s.a ^^^ m, p := nzFlags (s.a ^^^ m) s.p }))

/-- R207 to R210: CMP, CPX and CPY in every form write C, Z and N and no register. -/
def Sys2Proof.Statements.ComparesSetFlagsOnly : Prop :=
  (Immediate 0xC9 .cmpImm (fun m s s1 => { s1 with p := cmpFlags s.a m s.p }) ∧
    Reads cmpForms (fun m s s1 => { s1 with p := cmpFlags s.a m s.p })) ∧
  (Immediate 0xE0 .cpxImm (fun m s s1 => { s1 with p := cmpFlags s.x m s.p }) ∧
    Reads cpxForms (fun m s s1 => { s1 with p := cmpFlags s.x m s.p })) ∧
  (Immediate 0xC0 .cpyImm (fun m s s1 => { s1 with p := cmpFlags s.y m s.p }) ∧
    Reads cpyForms (fun m s s1 => { s1 with p := cmpFlags s.y m s.p }))

/-- R211: BIT copies bits 7 and 6 of M to N and V and sets Z from `A & M`; A is not written. -/
def Sys2Proof.Statements.BitTestsMemory : Prop :=
  Reads bitForms (fun m s s1 =>
    { s1 with p := replaceFlags 0xC2 ((m &&& 0xC0) ||| (if s.a &&& m = 0 then 0x02 else 0x00)) s.p })

/-- R207 to R211: CMP, CPX, CPY and BIT. -/
def Obligations.ComparesAndBitTest : Prop :=
  Statements.ComparesSetFlagsOnly ∧ Statements.BitTestsMemory

/-- R212, R213: INC and DEC of memory wrap modulo 256, write once, and set N and Z only. -/
def Sys2Proof.Statements.IncDecModifyMemory : Prop :=
  Modifies incForms (fun _ m => BitVec.ofNat 8 (m.toNat + 1)) (fun _ m p => nzFlags (BitVec.ofNat 8 (m.toNat + 1)) p) ∧
  Modifies decForms (fun _ m => BitVec.ofNat 8 (m.toNat + 255)) (fun _ m p => nzFlags (BitVec.ofNat 8 (m.toNat + 255)) p)

/-- R214 to R217: INX, INY, DEX and DEY wrap modulo 256 and set N and Z only. -/
def Sys2Proof.Statements.IndexStepsWrap : Prop :=
  OneByte 0xE8 .inx (fun s => { s with x := s.x + 1, p := nzFlags (s.x + 1) s.p }) ∧
  OneByte 0xC8 .iny (fun s => { s with y := s.y + 1, p := nzFlags (s.y + 1) s.p }) ∧
  OneByte 0xCA .dex (fun s => { s with x := s.x - 1, p := nzFlags (s.x - 1) s.p }) ∧
  OneByte 0x88 .dey (fun s => { s with y := s.y - 1, p := nzFlags (s.y - 1) s.p })

/-- R212 to R217: the increments and decrements of memory, X and Y. -/
def Obligations.IncrementsAndDecrements : Prop :=
  Statements.IncDecModifyMemory ∧ Statements.IndexStepsWrap

/-- R240 to R244 in the accumulator mode: the result is written to A, with no memory access. -/
def Sys2Proof.Statements.AccumulatorShifts : Prop :=
  OneByte 0x0A .aslAcc (fun s => { s with a := aslResult s.a, p := nzcFlags (aslResult s.a) (topBit s.a) s.p }) ∧
  OneByte 0x4A .lsrAcc (fun s => { s with a := lsrResult s.a, p := nzcFlags (lsrResult s.a) (lowBit s.a) s.p }) ∧
  OneByte 0x2A .rolAcc (fun s =>
    { s with a := rolResult (carryIn s.p) s.a, p := nzcFlags (rolResult (carryIn s.p) s.a) (topBit s.a) s.p }) ∧
  OneByte 0x6A .rorAcc (fun s =>
    { s with a := rorResult (carryIn s.p) s.a, p := nzcFlags (rorResult (carryIn s.p) s.a) (lowBit s.a) s.p })

/-- R240 to R244 in the memory modes: one read, one write of the result, then C, N and Z. -/
def Sys2Proof.Statements.MemoryShifts : Prop :=
  Modifies aslForms (fun _ m => aslResult m) (fun _ m p => nzcFlags (aslResult m) (topBit m) p) ∧
  Modifies lsrForms (fun _ m => lsrResult m) (fun _ m p => nzcFlags (lsrResult m) (lowBit m) p) ∧
  Modifies rolForms (fun s m => rolResult (carryIn s.p) m)
    (fun s m p => nzcFlags (rolResult (carryIn s.p) m) (topBit m) p) ∧
  Modifies rorForms (fun s m => rorResult (carryIn s.p) m)
    (fun s m p => nzcFlags (rorResult (carryIn s.p) m) (lowBit m) p)

/-- R240 to R244: the shifts and rotates in all five modes. -/
def Obligations.ShiftsAndRotates : Prop :=
  Statements.AccumulatorShifts ∧ Statements.MemoryShifts

/-! ## Stack and flags -/

/-- R260 to R263: PHA, PLA, PHP and PLP; the pushed copy of P has both B bits set, the pulled one leaves the CPU's own. -/
def Sys2Proof.Statements.StackInstructionsPushAndPull : Prop :=
  OneByte 0x48 .pha (fun s => { s with ram := s.ram.write (stackByteAt s.sp) s.a, sp := s.sp - 1 }) ∧
  OneByte 0x68 .pla (fun s =>
    { s with
      a := s.ram.read (stackByteAt (s.sp + 1)), sp := s.sp + 1
      p := nzFlags (s.ram.read (stackByteAt (s.sp + 1))) s.p }) ∧
  OneByte 0x08 .php (fun s => { s with ram := s.ram.write (stackByteAt s.sp) (s.p ||| 0x30), sp := s.sp - 1 }) ∧
  OneByte 0x28 .plp (fun s =>
    { s with
      p := (s.ram.read (stackByteAt (s.sp + 1)) &&& 0xCF) ||| (s.p &&& 0x30), sp := s.sp + 1 })

/-- R264 to R271: each flag instruction writes its one flag; NOP changes PC only, at a cost of 2
cycles; and V is set by ADC, SBC, BIT, PLP and RTI only. -/
def Sys2Proof.Statements.FlagInstructionsAndNop : Prop :=
  OneByte 0x18 .clc (fun s => { s with p := replaceFlags 0x01 0x00 s.p }) ∧
  OneByte 0x38 .sec (fun s => { s with p := replaceFlags 0x01 0x01 s.p }) ∧
  OneByte 0x58 .cli (fun s => { s with p := replaceFlags 0x04 0x00 s.p }) ∧
  OneByte 0x78 .sei (fun s => { s with p := replaceFlags 0x04 0x04 s.p }) ∧
  OneByte 0xB8 .clv (fun s => { s with p := replaceFlags 0x40 0x00 s.p }) ∧
  OneByte 0xD8 .cld (fun s => { s with p := replaceFlags 0x08 0x00 s.p }) ∧
  OneByte 0xF8 .sed (fun s => { s with p := replaceFlags 0x08 0x08 s.p }) ∧
  OneByte 0xEA .nop (fun s => s) ∧
  (∀ s : State, s.params.cycleTable = none → cycleCost .nop s = 2) ∧
  ∀ (i : Instr) (s t : State), exec i s = .next t → s.p.getLsbD 6 = false → t.p.getLsbD 6 = true →
    i.mnemonic ∈ [.adc, .sbc, .bit, .plp, .rti]

/-- R260 to R271: the stack instructions, the flag instructions and NOP. -/
def Obligations.StackAndFlagInstructions : Prop :=
  Statements.StackInstructionsPushAndPull ∧ Statements.FlagInstructionsAndNop

/-- R69: `Push` and `Pull` are the byte accesses of MemWrite and MemRead at $0100 + S, which never fault. -/
def Sys2Proof.Statements.StackIsRamPageOne : Prop :=
  ∀ (s : State) (v sp : Byte),
    memWrite (BitVec.ofNat 16 (256 + sp.toNat)) v s = .next { s with ram := s.ram.write (stackByteAt sp) v } ∧
    memRead (BitVec.ofNat 16 (256 + sp.toNat)) s = .next (s.ram.read (stackByteAt sp), s) ∧
    push v s = { s with ram := s.ram.write (stackByteAt s.sp) v, sp := s.sp - 1 } ∧
    pulled s = s.ram.read (stackByteAt (s.sp + 1)) ∧ afterPull s = { s with sp := s.sp + 1 }

namespace Sys2Proof.Statements

/-- Pushes the bytes in order. -/
def pushAll : List Byte → State → State
  | [], s => s
  | b :: bs, s => pushAll bs (push b s)

/-- Pulls n bytes, the first pulled first, with the state after the last pull. -/
def pullAll : Nat → State → List Byte × State
  | 0, s => ([], s)
  | n + 1, s => let r := pullAll n (afterPull s); (pulled s :: r.1, r.2)

end Sys2Proof.Statements

/-- R69's property: up to 256 pushed bytes are pulled in reverse order and S ends where it started. The premise on RAM is
part of the invariant of Obligations.StepKeepsInvariant. -/
def Sys2Proof.Statements.PushedBytesPullReversed : Prop :=
  ∀ (s : State) (bs : List Byte), s.ram.wf = true → bs.length ≤ 256 →
    (pullAll bs.length (pushAll bs s)).1 = bs.reverse ∧ (pullAll bs.length (pushAll bs s)).2.sp = s.sp

/-- R69: the stack primitives and the last-in, first-out property. -/
def Obligations.StackPushesAndPulls : Prop :=
  Statements.StackIsRamPageOne ∧ Statements.PushedBytesPullReversed

/-! ## Control -/

namespace Sys2Proof.Statements

/-- The branch goes to PC + 2 plus the signed displacement, modulo 2^16, when the condition holds; else to PC + 2. -/
def Branch (opcode : Byte) (i : Byte → Instr) (cond : Byte → Bool) : Prop :=
  ∀ (b : Byte) (s : State), encode (i b) = [opcode, b] ∧
    exec (i b) s =
      .next { s with pc := if cond s.p then BitVec.ofInt 16 ((s.pc.toNat : Int) + 2 + b.toInt) else s.pc + 2 }

/-- Bit n of P. -/
def pBit (n : Nat) (p : Byte) : Bool := decide (p.toNat / 2 ^ n % 2 = 1)

end Sys2Proof.Statements

/-- R290 to R298: the eight branches and their conditions; no flag is written. -/
def Obligations.BranchesFollowTheirFlag : Prop :=
  Branch 0x90 .bcc (fun p => !pBit 0 p) ∧ Branch 0xB0 .bcs (pBit 0) ∧ Branch 0xF0 .beq (pBit 1) ∧
  Branch 0xD0 .bne (fun p => !pBit 1 p) ∧ Branch 0x30 .bmi (pBit 7) ∧ Branch 0x10 .bpl (fun p => !pBit 7 p) ∧
  Branch 0x50 .bvc (fun p => !pBit 6 p) ∧ Branch 0x70 .bvs (pBit 6)

namespace Sys2Proof.Statements

/-- The address of the high byte of the JMP indirect pointer (R66): in the pointer's own page when the parameter says so. -/
def highPointer (s : State) (p : Addr) : Addr :=
  if s.params.jmpIndirectPageWrap then BitVec.ofNat 16 (p.toNat / 256 * 256 + (p.toNat + 1) % 256)
  else BitVec.ofNat 16 (p.toNat + 1)

end Sys2Proof.Statements

/-- R299, R154, R66: JMP absolute, and JMP indirect with both settings of the page-wrap parameter; the first pointer read
that stops is the instruction's stop. -/
def Sys2Proof.Statements.JmpTakesItsTarget : Prop :=
  (∀ (w : Addr) (s : State), encode (.jmpAbs w) = [0x4C, loByte w, hiByte w] ∧
    exec (.jmpAbs w) s = .next { s with pc := w }) ∧
  ∀ (w : Addr) (s : State), encode (.jmpInd w) = [0x6C, loByte w, hiByte w] ∧
    (readable s w = true → readable s (highPointer s w) = true → ∃ lo hi s1 s2,
      memRead w s = .next (lo, s1) ∧ memRead (highPointer s w) s1 = .next (hi, s2) ∧
      exec (.jmpInd w) s = .next { s2 with pc := word hi lo }) ∧
    (∀ e, memRead w s = .fault e → exec (.jmpInd w) s = .fault e) ∧
    (∀ r, memRead w s = .refused r → exec (.jmpInd w) s = .refused r) ∧
    (∀ lo s1 e, memRead w s = .next (lo, s1) → memRead (highPointer s w) s1 = .fault e →
      exec (.jmpInd w) s = .fault e) ∧
    (∀ lo s1 r, memRead w s = .next (lo, s1) → memRead (highPointer s w) s1 = .refused r →
      exec (.jmpInd w) s = .refused r)

/-- R300, R301: JSR pushes PC + 2, high byte first, and jumps; RTS pulls a word and goes one past it. -/
def Sys2Proof.Statements.SubroutinesCallAndReturn : Prop :=
  (∀ (w : Addr) (s : State), encode (.jsr w) = [0x20, loByte w, hiByte w] ∧
    exec (.jsr w) s = .next
      { s with
        ram := (s.ram.write (stackByteAt s.sp) (hiByte (s.pc + 2))).write (stackByteAt (s.sp - 1)) (loByte (s.pc + 2))
        sp := s.sp - 2, pc := w }) ∧
  ∀ s : State, encode .rts = [0x60] ∧
    exec .rts s = .next
      { s with
        sp := s.sp + 2
        pc := word (s.ram.read (stackByteAt (s.sp + 2))) (s.ram.read (stackByteAt (s.sp + 1))) + 1 }

/-- R299 to R301: JMP, JSR and RTS. -/
def Obligations.JumpsAndSubroutines : Prop :=
  Statements.JmpTakesItsTarget ∧ Statements.SubroutinesCallAndReturn

/-- R300, R301: RTS after JSR comes back to the instruction after the JSR, with S as it was. The premise on RAM is part of
the invariant of Obligations.StepKeepsInvariant. -/
def Sys2Proof.Statements.RtsUndoesJsr : Prop :=
  ∀ (s t : State) (w : Addr), s.ram.wf = true → exec (.jsr w) s = .next t →
    ∃ u, exec .rts t = .next u ∧ u.pc = s.pc + 3 ∧ u.sp = s.sp ∧ u.p = s.p

namespace Sys2Proof.Statements

/-- The devices moved on by c cycles; in NSF mode there is no PPU (R455). -/
def movedDevices (c : Nat) (t : State) : State :=
  { t with
    ppu := if t.isNsf then t.ppu else (ppuRun c t.ppu).ppu
    apu := apuRun c t.apu
    nmiPending := t.nmiPending || (!t.isNsf && (ppuRun c t.ppu).nmi)
    reachedPlay := playReached t
    out := { frame := !t.isNsf && (ppuRun c t.ppu).frame, samples := apuSamples c t.apu }
    audio := (apuSamples c t.apu).reverse ++ t.audio }

/-- The host grants the step that starts in this state (R459): with a listed grant, or with no move listed (log entry 5). -/
def grantsStep (s : State) : Prop := s.hostQueue = [] ∨ ∃ v rest, s.hostQueue = .grant v :: rest

/-- The machine after an instruction that left it in t, having cost c cycles: the cycle counter, and the devices moved on by
c cycles (R455). -/
def afterDevices (c : Nat) (t : State) : State := movedDevices c { t with cycles := t.cycles + c }

/-- RAM after the three pushes of an interrupt: the return address, high byte first, then a copy of P. -/
def interruptRam (s : State) (ret : Addr) (pushedP : Byte) : Memory :=
  ((s.ram.write (stackByteAt s.sp) (hiByte ret)).write (stackByteAt (s.sp - 1)) (loByte ret)).write
    (stackByteAt (s.sp - 2)) pushedP

end Sys2Proof.Statements

/-- R302: BRK pushes PC + 2 and `P | $30`, sets I, and jumps through $FFFE: in every state where the vector's bytes are
there (always in video mode); in NSF mode a vector byte outside the data faults, with nothing pushed. -/
def Sys2Proof.Statements.BrkEntersThroughItsVector : Prop :=
  ∀ s : State, encode .brk = [0x00] ∧ Instr.length .brk = 1 ∧
    (∀ lo hi, cartByte s 0xFFFE = some lo → cartByte s 0xFFFF = some hi →
      exec .brk s = .next
        { s with
          ram := interruptRam s (s.pc + 2) (s.p ||| 0x30)
          sp := s.sp - 3, p := replaceFlags 0x04 0x04 s.p, pc := word hi lo }) ∧
    (cartByte s 0xFFFE = none → exec .brk s = .fault (.accessFault 0xFFFE .read)) ∧
    (∀ lo, cartByte s 0xFFFE = some lo → cartByte s 0xFFFF = none →
      exec .brk s = .fault (.accessFault 0xFFFF .read)) ∧
    (s.isNsf = false → ∃ lo hi, cartByte s 0xFFFE = some lo ∧ cartByte s 0xFFFF = some hi)

/-- R303: RTI pulls P, keeping the CPU's own B bits, and then PC, without adding 1. -/
def Sys2Proof.Statements.RtiRestoresStatusAndPc : Prop :=
  ∀ s : State, encode .rti = [0x40] ∧
    exec .rti s = .next
      { s with
        p := (s.ram.read (stackByteAt (s.sp + 1)) &&& 0xCF) ||| (s.p &&& 0x30)
        sp := s.sp + 3
        pc := word (s.ram.read (stackByteAt (s.sp + 3))) (s.ram.read (stackByteAt (s.sp + 2))) }

/-- R302, R303: the software interrupt and the return from an interrupt. -/
def Obligations.BrkAndRti : Prop :=
  Statements.BrkEntersThroughItsVector ∧ Statements.RtiRestoresStatusAndPc

/-- R329: the NMI entry as a whole step: three pushes, the pushed copy of P with B4 = 0 and B5 = 1, I set, PC from $FFFA,
the latch cleared, 7 cycles; A, X, Y are kept; a vector byte that is not there faults. By R331 and R455 a granted step with
the latch set is that entry and then the devices by 7 cycles, and it stops as the entry stops. A listed grant sets the
buttons first (R458); that a step with no move of the host listed is granted, with the buttons as they are, is the model's
choice, and so is the list itself (log entry 5). -/
def Obligations.NmiEntrySavesAndJumps : Prop :=
  ∀ s : State,
    (∀ lo hi, cartByte s 0xFFFA = some lo → cartByte s 0xFFFB = some hi →
      nmiEntry s = .next
        { s with
          ram := interruptRam s s.pc ((s.p &&& 0xEF) ||| 0x20)
          sp := s.sp - 3, p := replaceFlags 0x04 0x04 s.p, pc := word hi lo
          nmiPending := false, cycles := s.cycles + 7 }) ∧
    (cartByte s 0xFFFA = none → nmiEntry s = .fault (.accessFault 0xFFFA .read)) ∧
    (∀ lo, cartByte s 0xFFFA = some lo → cartByte s 0xFFFB = none → nmiEntry s = .fault (.accessFault 0xFFFB .read)) ∧
    (s.run = .running → s.hostQueue = [] → s.nmiPending = true →
      step s = andThen (nmiEntry s) fun t => .next (movedDevices 7 t)) ∧
    (∀ (v : Byte) (rest : List HostMove), s.run = .running → s.hostQueue = .grant v :: rest → s.nmiPending = true →
      step s = andThen (nmiEntry { s with buttons := v, hostQueue := rest }) fun t => .next (movedDevices 7 t))

/-- R333: RTI right after an interrupt entry restores PC, S and the whole of P, I with it: after an NMI entry to the
instruction that was next, after BRK to PC + 2. The premise on RAM is part of the invariant of
Obligations.StepKeepsInvariant. -/
def Sys2Proof.Statements.RtiUndoesInterruptEntry : Prop :=
  ∀ s t : State, s.ram.wf = true →
    (nmiEntry s = .next t → ∃ u, exec .rti t = .next u ∧ u.pc = s.pc ∧ u.sp = s.sp ∧ u.p = s.p) ∧
    (exec .brk s = .next t → ∃ u, exec .rti t = .next u ∧ u.pc = s.pc + 2 ∧ u.sp = s.sp ∧ u.p = s.p)

/-- R301, R333: the returns undo the calls and the interrupt entries. -/
def Obligations.ReturnsUndoEntries : Prop :=
  Statements.RtsUndoesJsr ∧ Statements.RtiUndoesInterruptEntry

/-! ## Encoding and fetch -/

/-- R140 to R142: for every instruction, with every operand at every value, the decoder reads its encoding back and leaves
the bytes after it; the encoding has the instruction's length, 1 to 3 bytes. -/
def Obligations.DecodeOfEncode : Prop :=
  ∀ (i : Instr) (rest : List Byte),
    decode (encode i ++ rest) = .ok (i, rest) ∧ (encode i).length = i.length ∧ 1 ≤ i.length ∧ i.length ≤ 3

/-- R140, R141: whatever the decoder reads is well formed, and the bytes were its encoding: no two encodings of one
instruction, and no bit of a word dropped. -/
def Obligations.EncodeOfDecode : Prop :=
  ∀ (bytes rest : List Byte) (i : Instr), decode bytes = .ok (i, rest) →
    bytes = encode i ++ rest ∧ i.wellFormed = true

namespace Sys2Proof.Statements

/-- The 105 opcodes without a row (R157). -/
def unknownOpcodes : List Byte :=
  [0x02, 0x03, 0x04, 0x07, 0x0B, 0x0C, 0x0F] ++ [0x12, 0x13, 0x14, 0x17, 0x1A, 0x1B, 0x1C, 0x1F] ++
  [0x22, 0x23, 0x27, 0x2B, 0x2F] ++ [0x32, 0x33, 0x34, 0x37, 0x3A, 0x3B, 0x3C, 0x3F] ++
  [0x42, 0x43, 0x44, 0x47, 0x4B, 0x4F] ++ [0x52, 0x53, 0x54, 0x57, 0x5A, 0x5B, 0x5C, 0x5F] ++
  [0x62, 0x63, 0x64, 0x67, 0x6B, 0x6F] ++ [0x72, 0x73, 0x74, 0x77, 0x7A, 0x7B, 0x7C, 0x7F] ++
  [0x80, 0x82, 0x83, 0x87, 0x89, 0x8B, 0x8F] ++ [0x92, 0x93, 0x97, 0x9B, 0x9C, 0x9E, 0x9F] ++
  [0xA3, 0xA7, 0xAB, 0xAF] ++ [0xB2, 0xB3, 0xB7, 0xBB, 0xBF] ++ [0xC2, 0xC3, 0xC7, 0xCB, 0xCF] ++
  [0xD2, 0xD3, 0xD4, 0xD7, 0xDA, 0xDB, 0xDC, 0xDF] ++ [0xE2, 0xE3, 0xE7, 0xEB, 0xEF] ++
  [0xF2, 0xF3, 0xF4, 0xF7, 0xFA, 0xFB, 0xFC, 0xFF]

end Sys2Proof.Statements

/-- R157: the 105 unknown opcodes decode to nothing, and fetching one faults before any operand byte is fetched; every
other opcode decodes. -/
def Obligations.UnknownOpcodesFault : Prop :=
  unknownOpcodes.length = 105 ∧
  (∀ op ∈ unknownOpcodes, ∀ (rest : List Byte) (s : State),
    decode (op :: rest) = .error (.unknownOpcode op) ∧
    (codeByte s s.pc = some op → fetchInstr s = .fault (.unknownOpcode s.pc op))) ∧
  ∀ op : Byte, op ∉ unknownOpcodes → ∀ b1 b2 : Byte, ∃ i rest, decode [op, b1, b2] = .ok (i, rest) ∧ i.opcode = op

/-- Rows of R156 and operand bytes of R142, the words written out from the spec's tables: each family's first byte and
little-endian operands. -/
def Obligations.WordsDecodeAsTheTableSays : Prop :=
  decode [0xA9, 0x01] = .ok (.ldaImm 0x01, []) ∧ decode [0x8D, 0x00, 0x02] = .ok (.staAbs 0x0200, []) ∧
  decode [0xAA] = .ok (.tax, []) ∧ decode [0x69, 0xC4] = .ok (.adcImm 0xC4, []) ∧
  decode [0x71, 0x80] = .ok (.adcIndY 0x80, []) ∧ decode [0x5E, 0xFF, 0x10] = .ok (.lsrAbsX 0x10FF, []) ∧
  decode [0x28] = .ok (.plp, []) ∧ decode [0xD0, 0xFA] = .ok (.bne 0xFA, []) ∧
  decode [0x6C, 0xFF, 0x10] = .ok (.jmpInd 0x10FF, []) ∧ decode [0x00, 0xEA] = .ok (.brk, [0xEA]) ∧
  decodeTableWord 24 0x0200AD = some (.ldaAbs 0x0200) ∧ decodeTableWord 8 0x8D = some (.staAbs 0x0000)

/-- R68: a fetch reads internal RAM, PRG-RAM where present, the cartridge at $8000-$FFFF and, in NSF mode, the bootstrap
region; everywhere else there is no code byte and the fetch faults. -/
def Sys2Proof.Statements.FetchReadsCodeRegionsOnly : Prop :=
  ∀ (s : State) (a : Addr),
    (a.toNat < 0x2000 → codeByte s a = some (s.ram.read (a.toNat % 2048))) ∧
    (0x2000 ≤ a.toNat → a.toNat < 0x5000 → codeByte s a = none) ∧
    (0x5000 ≤ a.toNat → a.toNat < 0x5100 →
      codeByte s a = match s.cart with
        | .nes _ => none
        | .nsf f => some (bootByte f s.track (a.toNat - 0x5000))) ∧
    (0x5100 ≤ a.toNat → a.toNat < 0x6000 → codeByte s a = none) ∧
    (0x6000 ≤ a.toNat → a.toNat < 0x8000 → codeByte s a = s.prgRam.map fun m => m.read (a.toNat - 0x6000)) ∧
    (0x8000 ≤ a.toNat → codeByte s a = cartByte s a) ∧
    (codeByte s a = none → fetchByte s a = .fault (.pcOutOfRange a)) ∧
    (∀ b, codeByte s a = some b → fetchByte s a = .next b)

namespace Sys2Proof.Statements

/-- The first n bytes of the instruction's encoding stand at PC. -/
def standsAtPc (i : Instr) (n : Nat) (s : State) : Prop :=
  ∀ k, k < n → codeByte s (s.pc + BitVec.ofNat 16 k) = (encode i)[k]?

end Sys2Proof.Statements

/-- R331, R68: the opcode is fetched first and then its operand bytes in order; the first fetch outside the code regions is
the fault, with its own address. -/
def Sys2Proof.Statements.FirstMissingByteFaults : Prop :=
  (∀ s : State, codeByte s s.pc = none → fetchInstr s = .fault (.pcOutOfRange s.pc)) ∧
  ∀ (s : State) (i : Instr) (n : Nat), 0 < n → n < (encode i).length → standsAtPc i n s →
    codeByte s (s.pc + BitVec.ofNat 16 n) = none → fetchInstr s = .fault (.pcOutOfRange (s.pc + BitVec.ofNat 16 n))

/-- R68: what a fetch reads, and the fault of the first byte that no code region has. -/
def Obligations.FetchAndItsFaults : Prop :=
  Statements.FetchReadsCodeRegionsOnly ∧ Statements.FirstMissingByteFaults

/-- R455: when the bytes at PC are an instruction's encoding, a step runs exactly that instruction, then adds its cycles
and moves the devices; a fault or a refusal of the instruction is the step's. With no move of the host listed the buttons
stay as they are; a listed grant sets them first (log entry 5). -/
def Obligations.StepRunsTheDecodedInstruction : Prop :=
  ∀ (s : State) (i : Instr), s.run = .running → s.nmiPending = false → standsAtPc i (encode i).length s →
    fetchInstr s = .next i ∧
    (s.hostQueue = [] → step s = andThen (exec i s) fun t => .next (afterDevices (cycleCost i s) t)) ∧
    (∀ (v : Byte) (rest : List HostMove), s.hostQueue = .grant v :: rest →
      step s = andThen (exec i { s with buttons := v, hostQueue := rest }) fun t =>
        .next (afterDevices (cycleCost i s) t))

/-! ## Operands -/

namespace Sys2Proof.Statements

/-- The word at zero-page address z, its high byte from z + 1 modulo 256 (R66). -/
def zeroPageWord (s : State) (z : Nat) : Nat :=
  (s.ram.read (z % 256)).toNat + 256 * (s.ram.read ((z + 1) % 256)).toNat

end Sys2Proof.Statements

/-- R146 to R153: the effective address of every memory mode as a number; zero-page sums and pointers wrap in page 0,
absolute sums at 2^16; a zero-page byte is what MemRead gives there. -/
def Obligations.EffectiveAddresses : Prop :=
  ∀ (b : Byte) (w : Addr) (s : State),
    (eaZp b).toNat = b.toNat ∧
    (eaZpX b s).toNat = (b.toNat + s.x.toNat) % 256 ∧
    (eaZpY b s).toNat = (b.toNat + s.y.toNat) % 256 ∧
    eaAbs w = w ∧
    (eaAbsX w s).toNat = (w.toNat + s.x.toNat) % 65536 ∧
    (eaAbsY w s).toNat = (w.toNat + s.y.toNat) % 65536 ∧
    (eaIndX b s).toNat = zeroPageWord s (b.toNat + s.x.toNat) ∧
    (eaIndY b s).toNat = (zeroPageWord s b.toNat + s.y.toNat) % 65536 ∧
    memRead (eaZp b) s = .next (s.ram.read b.toNat, s)

namespace Sys2Proof.Statements

/-- The base counts of R463, a row per high nibble of the opcode; 0 stands for an unknown opcode. -/
def baseRows : List (List Nat) :=
  [[7, 6, 0, 0, 0, 3, 5, 0, 3, 2, 2, 0, 0, 4, 6, 0], [2, 5, 0, 0, 0, 4, 6, 0, 2, 4, 0, 0, 0, 4, 7, 0]] ++
  [[6, 6, 0, 0, 3, 3, 5, 0, 4, 2, 2, 0, 4, 4, 6, 0], [2, 5, 0, 0, 0, 4, 6, 0, 2, 4, 0, 0, 0, 4, 7, 0]] ++
  [[6, 6, 0, 0, 0, 3, 5, 0, 3, 2, 2, 0, 3, 4, 6, 0], [2, 5, 0, 0, 0, 4, 6, 0, 2, 4, 0, 0, 0, 4, 7, 0]] ++
  [[6, 6, 0, 0, 0, 3, 5, 0, 4, 2, 2, 0, 5, 4, 6, 0], [2, 5, 0, 0, 0, 4, 6, 0, 2, 4, 0, 0, 0, 4, 7, 0]] ++
  [[0, 6, 0, 0, 3, 3, 3, 0, 2, 0, 2, 0, 4, 4, 4, 0], [2, 6, 0, 0, 4, 4, 4, 0, 2, 5, 2, 0, 0, 5, 0, 0]] ++
  [[2, 6, 2, 0, 3, 3, 3, 0, 2, 2, 2, 0, 4, 4, 4, 0], [2, 5, 0, 0, 4, 4, 4, 0, 2, 4, 2, 0, 4, 4, 4, 0]] ++
  [[2, 6, 0, 0, 3, 3, 5, 0, 2, 2, 2, 0, 4, 4, 6, 0], [2, 5, 0, 0, 0, 4, 6, 0, 2, 4, 0, 0, 0, 4, 7, 0]] ++
  [[2, 6, 0, 0, 3, 3, 5, 0, 2, 2, 2, 0, 4, 4, 6, 0], [2, 5, 0, 0, 0, 4, 6, 0, 2, 4, 0, 0, 0, 4, 7, 0]]

/-- The opcodes R463 marks p. -/
def pageMarked : List Byte :=
  [0x11, 0x19, 0x1D, 0x31, 0x39, 0x3D, 0x51, 0x59, 0x5D, 0x71, 0x79, 0x7D, 0xB1, 0xB9] ++
  [0xBC, 0xBD, 0xBE, 0xD1, 0xD9, 0xDD, 0xF1, 0xF9, 0xFD]

/-- `Base(opcode)`. -/
def baseCycles (op : Byte) : Nat := (baseRows.getD (op.toNat / 16) []).getD (op.toNat % 16) 0

/-- Bits 15:8 differ (R12). -/
def otherPage (a b : Addr) : Bool := a.toNat / 256 != b.toNat / 256

/-- `crossed` of R150, R151, R153 and R155. -/
def crossed (i : Instr) (s : State) : Bool :=
  match i.mode, i.operandBytes with
  | .absoluteX, [lo, hi] => otherPage (word hi lo) (word hi lo + zext16 s.x)
  | .absoluteY, [lo, hi] => otherPage (word hi lo) (word hi lo + zext16 s.y)
  | .indirectIndexed, [b] =>
    otherPage (BitVec.ofNat 16 (zeroPageWord s b.toNat)) (BitVec.ofNat 16 (zeroPageWord s b.toNat) + zext16 s.y)
  | .relative, [b] => otherPage (s.pc + 2) (s.pc + 2 + sext16 b)
  | _, _ => false

/-- The branch is taken (R291 to R298). -/
def taken (m : Mnemonic) (p : Byte) : Bool :=
  match m with
  | .bcc => !pBit 0 p
  | .bcs => pBit 0 p
  | .bne => !pBit 1 p
  | .beq => pBit 1 p
  | .bpl => !pBit 7 p
  | .bmi => pBit 7 p
  | .bvc => !pBit 6 p
  | .bvs => pBit 6 p
  | _ => false

end Sys2Proof.Statements

/-- R456, R463: every instruction costs its base count, 1 more where its opcode is marked p and the page is crossed, and as a
branch 1 more when taken, 2 more when taken into another page; in every state whose table parameter is the default. -/
def Obligations.CycleCostsWithPenalties : Prop :=
  ∀ (i : Instr) (s : State), s.params.cycleTable = none →
    cycleCost i s = baseCycles i.opcode + (if i.opcode ∈ pageMarked ∧ crossed i s = true then 1 else 0) +
      (if taken i.mnemonic s.p then (if crossed i s then 2 else 1) else 0)

/-! ## Frames -/

namespace Sys2Proof.Statements

/-- The flags a mnemonic may write (R25; the "Flags" of R170 to R303), as bits of P. -/
def writtenFlags : Mnemonic → Byte
  | .lda | .ldx | .ldy | .tax | .tay | .txa | .tya | .tsx | .and | .ora | .eor | .inc | .dec | .inx | .iny | .dex
  | .dey | .pla => 0x82
  | .sta | .stx | .sty | .txs | .pha | .php | .nop | .bcc | .bcs | .beq | .bne | .bmi | .bpl | .bvc | .bvs | .jmp
  | .jsr | .rts => 0x00
  | .adc | .sbc => 0xC3
  | .cmp | .cpx | .cpy | .asl | .lsr | .rol | .ror => 0x83
  | .bit => 0xC2
  | .plp | .rti => 0xCF
  | .clc | .sec => 0x01
  | .cli | .sei | .brk => 0x04
  | .clv => 0x40
  | .cld | .sed => 0x08

/-- The instruction may write A (R20). -/
def writesA (i : Instr) : Bool :=
  i.mnemonic ∈ [.lda, .adc, .sbc, .and, .ora, .eor, .txa, .tya, .pla] ∨ i.mode = .accumulator
/-- The instruction may write X (R21). -/
def writesX (i : Instr) : Bool := i.mnemonic ∈ [.ldx, .inx, .dex, .tax, .tsx]
/-- The instruction may write Y (R22). -/
def writesY (i : Instr) : Bool := i.mnemonic ∈ [.ldy, .iny, .dey, .tay]
/-- The instruction may write S (R23). -/
def writesSp (i : Instr) : Bool := i.mnemonic ∈ [.txs, .pha, .pla, .php, .plp, .jsr, .rts, .brk, .rti]
/-- The instruction sets PC explicitly. -/
def setsPc (i : Instr) : Bool := i.mode = .relative ∨ i.mnemonic ∈ [.jmp, .jsr, .rts, .brk, .rti]

/-- The mnemonic reads its operand and stores nothing. -/
def isReading (m : Mnemonic) : Bool :=
  m ∈ [.lda, .ldx, .ldy, .adc, .sbc, .and, .ora, .eor, .cmp, .cpx, .cpy, .bit]
/-- The mnemonic stores a register. -/
def isStore (m : Mnemonic) : Bool := m ∈ [.sta, .stx, .sty]
/-- The mnemonic is a read-modify-write in its memory modes. -/
def isModify (m : Mnemonic) : Bool := m ∈ [.inc, .dec, .asl, .lsr, .rol, .ror]

/-- The data address of the instruction's operand, none where it has none (R143 to R155; the target of JMP and JSR is no
data address, R149). -/
def operandAddr (i : Instr) (s : State) : Option Addr :=
  match i.mode, i.operandBytes with
  | .zeroPage, [b] => some (eaZp b)
  | .zeroPageX, [b] => some (eaZpX b s)
  | .zeroPageY, [b] => some (eaZpY b s)
  | .absolute, [lo, hi] => if i.mnemonic = .jmp ∨ i.mnemonic = .jsr then none else some (word hi lo)
  | .absoluteX, [lo, hi] => some (eaAbsX (word hi lo) s)
  | .absoluteY, [lo, hi] => some (eaAbsY (word hi lo) s)
  | .indexedIndirect, [b] => some (eaIndX b s)
  | .indirectIndexed, [b] => some (eaIndY b s)
  | _, _ => none

/-- The address a storing or read-modify-write instruction stores its one byte to. -/
def storeAddr (i : Instr) (s : State) : Option Addr :=
  if isStore i.mnemonic || isModify i.mnemonic then operandAddr i s else none

/-- How many bytes the instruction pushes. -/
def pushCount : Mnemonic → Nat
  | .pha | .php => 1
  | .jsr => 2
  | .brk => 3
  | _ => 0

end Sys2Proof.Statements

/-- R20 to R25: every instruction that completes leaves each register it does not write, each flag it does not name, and, but
for the jumps, branches and returns, moves PC past itself; and it leaves the cycle counter, the run state, the NMI latch,
the cartridge, the parameters, the host's side and the PPU's position alone. -/
def Obligations.RegistersFlagsAndSurroundingsFrame : Prop :=
  ∀ (i : Instr) (s t : State), exec i s = .next t →
    (writesA i = false → t.a = s.a) ∧ (writesX i = false → t.x = s.x) ∧ (writesY i = false → t.y = s.y) ∧
    (writesSp i = false → t.sp = s.sp) ∧ (setsPc i = false → t.pc = s.pc + BitVec.ofNat 16 i.length) ∧
    t.p &&& ~~~writtenFlags i.mnemonic = s.p &&& ~~~writtenFlags i.mnemonic ∧ SameSurroundings s t

/-- An instruction that stores nothing and pushes nothing leaves every byte of memory. -/
def Sys2Proof.Statements.MemoryFrameWithoutStores : Prop :=
  ∀ (i : Instr) (s t : State), storeAddr i s = none → pushCount i.mnemonic = 0 → exec i s = .next t →
    SameBytes s t ∧ t.ram = s.ram ∧ t.prgRam = s.prgRam

/-- STA, STX, STY and the read-modify-writes leave every byte of memory outside the one at their effective address (and its
mirrors); a store to the mapper's range or to an NSF bank register moves windows, and so changes what $8000-$FFFF reads as,
but no byte elsewhere. -/
def Sys2Proof.Statements.MemoryFrameOfStores : Prop :=
  ∀ (i : Instr) (s t : State) (ea : Addr), storeAddr i s = some ea → exec i s = .next t → SameBytesBut ea s t

/-- PHA, PHP, JSR and BRK leave every byte of memory outside the stack bytes they push, at $0100 + S, then S - 1, S - 2. -/
def Sys2Proof.Statements.MemoryFrameOfPushes : Prop :=
  ∀ (i : Instr) (s t : State), exec i s = .next t → 0 < pushCount i.mnemonic →
    ∀ a : Addr, (∀ j, j < pushCount i.mnemonic → regionOf s a ≠ .ram (stackByteAt (s.sp - BitVec.ofNat 8 j))) →
      codeByte t a = codeByte s a

/-- Every byte of memory that an instruction does not store to, it leaves: no store, one store, pushes. -/
def Obligations.MemoryFrame : Prop :=
  Statements.MemoryFrameWithoutStores ∧ Statements.MemoryFrameOfStores ∧ Statements.MemoryFrameOfPushes

/-- R63, R64, R71: an instruction moves a device only through its own access: a read has PPUSTATUS's and the controller's
side effects, a store reaches the one device of its address, and an instruction without a data access (BRK's vector read is
of the cartridge) leaves them all; JMP indirect reads its pointer and so may have a read's side effects only. -/
def Obligations.DevicesFrame : Prop :=
  ∀ (i : Instr) (s t : State), exec i s = .next t →
    (operandAddr i s = none → i.mode ≠ .indirect → SameDevices s t) ∧
    (i.mode = .indirect → t.apu = s.apu ∧ t.mapper = s.mapper ∧ t.windows = s.windows ∧
      t.ppu.ctrl = s.ppu.ctrl ∧ t.ppu.mask = s.ppu.mask) ∧
    ∀ ea, operandAddr i s = some ea →
      (isReading i.mnemonic = true → DevicesAfterRead ea s t) ∧
      (isStore i.mnemonic = true → DevicesAfterStore ea s t) ∧
      (isModify i.mnemonic = true →
        (isPpuRegion (regionOf s ea) = false → t.ppu = s.ppu) ∧
        (isApuRegion (regionOf s ea) = false → t.apu = s.apu) ∧ (regionOf s ea ≠ .pad1 → t.pad = s.pad) ∧
        (movesWindows (regionOf s ea) = false → t.mapper = s.mapper ∧ t.windows = s.windows) ∧
        (regionOf s ea ≠ .pad1 → regionOf s ea ≠ .pad2 → t.drawCount = s.drawCount))

/-- Every one of the 151 instructions completes wherever the bytes it reads and stores lie in internal RAM: its effective
address, the two pointer bytes of JMP indirect; BRK in video mode, where its vector is in the cartridge. An instruction
without a data access completes in every state. -/
def Obligations.EveryInstructionCompletesOnRam : Prop :=
  ∀ (i : Instr) (s : State), (∀ ea, operandAddr i s = some ea → ea.toNat < 0x2000) →
    (∀ w, i = .jmpInd w → w.toNat < 0x2000 ∧ (highPointer s w).toNat < 0x2000) →
    (i = .brk → s.isNsf = false) → ∃ t, exec i s = .next t

/-! ## The address map and the registers behind it -/

namespace Sys2Proof.Statements

/-- A read of a gives b and leaves t. -/
def ReadGives (a : Addr) (s : State) (b : Byte) (t : State) : Prop := memRead a s = .next (b, t)

/-- A read of a is refused, a write of every byte is refused. -/
def RefusesRead (a : Addr) (s : State) : Prop := memRead a s = .refused (.unmodelled a .read)
def RefusesWrite (a : Addr) (s : State) : Prop := ∀ v, memWrite a v s = .refused (.unmodelled a .write)

/-- A read and a write of a fault as unmapped. -/
def FaultsUnmapped (a : Addr) (s : State) : Prop :=
  memRead a s = .fault (.accessFault a .read) ∧ ∀ v, memWrite a v s = .fault (.accessFault a .write)

/-- The index of an address into a region that starts at `base`. -/
def offsetFrom (base : Nat) (a : Addr) : Nat := a.toNat - base

end Sys2Proof.Statements

/-- R62, the RAM, PRG-RAM and cartridge rows and the unmapped ones, and R61: every address of video mode outside the device
registers reads and writes its one byte, goes to the mapper, or faults. -/
def Sys2Proof.Statements.VideoMapOfMemories : Prop :=
  ∀ (s : State) (f : NesFile) (a : Addr) (v : Byte), s.cart = .nes f →
    (a.toNat < 0x2000 → ReadGives a s (s.ram.read (a.toNat % 0x800)) s ∧
      memWrite a v s = .next { s with ram := s.ram.write (a.toNat % 0x800) v }) ∧
    (0x4018 ≤ a.toNat → a.toNat < 0x6000 → FaultsUnmapped a s) ∧
    (0x6000 ≤ a.toNat → a.toNat < 0x8000 → s.prgRam = none → FaultsUnmapped a s) ∧
    (∀ m, 0x6000 ≤ a.toNat → a.toNat < 0x8000 → s.prgRam = some m →
      ReadGives a s (m.read (offsetFrom 0x6000 a)) s ∧
      memWrite a v s = .next { s with prgRam := some (m.write (offsetFrom 0x6000 a) v) }) ∧
    (0x8000 ≤ a.toNat → a.toNat < 0xC000 →
      ReadGives a s (f.prg.cells.read (s.windows.prgLo + offsetFrom 0x8000 a)) s) ∧
    (0xC000 ≤ a.toNat → ReadGives a s (f.prg.cells.read (s.windows.prgHi + offsetFrom 0xC000 a)) s) ∧
    (0x8000 ≤ a.toNat →
      memWrite a v s = andThen (mapperWrite f a v s.mapper s.windows) fun mw =>
        .next { s with mapper := mw.1, windows := mw.2 })

/-- R62's APU rows: the channel registers are write-only, $4015 is the status on a read and the enables on a write, $4017 is
the frame counter on a write; they are the same in NSF mode. -/
def Sys2Proof.Statements.MapOfApuRegisters : Prop :=
  ∀ (s : State) (a : Addr) (v : Byte),
    (0x4000 ≤ a.toNat → a.toNat < 0x4014 →
      RefusesRead a s ∧ memWrite a v s = .next { s with apu := writeChannel (offsetFrom 0x4000 a) v s.apu }) ∧
    (a.toNat = 0x4015 → ReadGives a s (apuStatus s.apu) s ∧
      memWrite a v s = .next { s with apu := writeEnables v s.apu }) ∧
    (a.toNat = 0x4017 →
      memWrite a v s = .next { s with apu := writeFrameCounter s.params.frameResetDelay v s.apu })

/-- R62: the address map of video mode but for the PPU's and the controller's registers, which have their own statements. -/
def Obligations.AddressMap : Prop :=
  Statements.VideoMapOfMemories ∧ Statements.MapOfApuRegisters

/-- R79: NSF mode differs in these ranges: no PPU and no $4014, the bank registers, the bootstrap region, and a cartridge
that is read through R124 and cannot be written; RAM, the APU and the controller stay, and so do the other unmapped ranges and
PRG-RAM, since R79 names no other row (log entry 23). -/
def Obligations.NsfMap : Prop :=
  ∀ (s : State) (f : NsfFile) (a : Addr) (v : Byte), s.cart = .nsf f →
    (a.toNat < 0x2000 → ReadGives a s (s.ram.read (a.toNat % 0x800)) s ∧
      memWrite a v s = .next { s with ram := s.ram.write (a.toNat % 0x800) v }) ∧
    (0x2000 ≤ a.toNat → a.toNat < 0x4000 → FaultsUnmapped a s) ∧ (a.toNat = 0x4014 → FaultsUnmapped a s) ∧
    (a.toNat = 0x4015 → ReadGives a s (apuStatus s.apu) s) ∧
    (0x5000 ≤ a.toNat → a.toNat < 0x5100 →
      ReadGives a s ((bootProgram f s.track).getD (offsetFrom 0x5000 a) 0) s ∧
      memWrite a v s = .fault (.accessFault a .write)) ∧
    (0x4018 ≤ a.toNat → a.toNat < 0x5000 → FaultsUnmapped a s) ∧
    (0x5100 ≤ a.toNat → a.toNat < 0x5FF8 → FaultsUnmapped a s) ∧
    (0x6000 ≤ a.toNat → a.toNat < 0x8000 → s.prgRam = none → FaultsUnmapped a s) ∧
    (∀ m, 0x6000 ≤ a.toNat → a.toNat < 0x8000 → s.prgRam = some m →
      ReadGives a s (m.read (offsetFrom 0x6000 a)) s ∧
      memWrite a v s = .next { s with prgRam := some (m.write (offsetFrom 0x6000 a) v) }) ∧
    (0x5FF8 ≤ a.toNat → a.toNat < 0x6000 →
      RefusesRead a s ∧
      memWrite a v s = .next { s with mapper := nsfBankWrite (offsetFrom 0x5FF8 a) v s.mapper }) ∧
    (0x8000 ≤ a.toNat →
      memWrite a v s = .fault (.accessFault a .write) ∧
      memRead a s = match nsfRead f s.mapper a with
        | some b => .next (b, s)
        | none => .fault (.accessFault a .read))

/-- R350 to R354, R359: the PPU registers at every mirror, in video mode: PPUCTRL and PPUMASK are stored whole, a PPUSTATUS
read gives the vblank flag in bit 7 and 0 elsewhere and clears the flag and nothing else, a PPUSTATUS write is ignored, and
every access to registers 3 to 7 and to $4014 is refused. -/
def Obligations.PpuRegisters : Prop :=
  ∀ (s : State) (a : Addr) (v : Byte), s.isNsf = false →
    (0x2000 ≤ a.toNat → a.toNat < 0x4000 →
      (a.toNat % 8 = 0 → RefusesRead a s ∧ memWrite a v s = .next { s with ppu := { s.ppu with ctrl := v } }) ∧
      (a.toNat % 8 = 1 → RefusesRead a s ∧ memWrite a v s = .next { s with ppu := { s.ppu with mask := v } }) ∧
      (a.toNat % 8 = 2 →
        ReadGives a s (if s.ppu.vblank then 0x80 else 0x00) { s with ppu := { s.ppu with vblank := false } } ∧
        memWrite a v s = .next s) ∧
      (3 ≤ a.toNat % 8 → RefusesRead a s ∧ RefusesWrite a s)) ∧
    (a.toNat = 0x4014 → RefusesRead a s ∧ RefusesWrite a s)

/-- R78: the controller port, in both modes. Bits 7 to 1 of a read are the open-bus draw, which is free (log entry 4): the
statement holds for every value of it, and says only that a draw is counted. -/
def Sys2Proof.Statements.PortReadsAndWrites : Prop :=
  ∀ (s : State) (v : Byte),
    (memWrite 0x4016 v s = .next
      { s with
        pad :=
          { strobe := decide (v.toNat % 2 = 1)
            shift := if s.pad.strobe = true ∧ v.toNat % 2 = 0 then s.buttons else s.pad.shift } }) ∧
    (∃ b, memRead 0x4016 s = .next (b,
        { s with
          drawCount := s.drawCount + 1
          pad := if s.pad.strobe then s.pad else { s.pad with shift := (s.pad.shift >>> 1) ||| 0x80 } }) ∧
      b.getLsbD 0 = (if s.pad.strobe then s.buttons.getLsbD 0 else s.pad.shift.getLsbD 0) ∧
      b &&& 0xFE = Config.openBus s.drawCount &&& 0xFE) ∧
    (∃ b, memRead 0x4017 s = .next (b, { s with drawCount := s.drawCount + 1 }) ∧
      b = Config.openBus s.drawCount &&& 0xFE)

namespace Sys2Proof.Statements

/-- n reads of $4016 in a row: bit 0 of each, the first first. -/
def padBits : Nat → State → Option (List Bool)
  | 0, _ => some []
  | n + 1, s =>
    match memRead 0x4016 s with
    | .next (b, t) => (padBits n t).map (b.getLsbD 0 :: ·)
    | .fault _ => none
    | .refused _ => none

end Sys2Proof.Statements

/-- R78 as a program uses it: strobing 1 then 0 and reading $4016 eight times gives the eight buttons, A first; every
further read gives 1. -/
def Sys2Proof.Statements.EightReadsGiveTheButtons : Prop :=
  ∀ (s t u : State) (n : Nat), memWrite 0x4016 1 s = .next t → memWrite 0x4016 0 t = .next u →
    padBits (8 + n) u = some ((List.range 8).map s.buttons.getLsbD ++ List.replicate n true)

/-- R78: the controller port, each access and the protocol. -/
def Obligations.ControllerPort : Prop :=
  Statements.PortReadsAndWrites ∧ Statements.EightReadsGiveTheButtons

/-- R381, R382: the $4015 write sets the four enables and clears the length counter of each channel disabled by it; the
$4015 read gives the four `len > 0` bits and 0 above. -/
def Sys2Proof.Statements.ApuEnablesAndStatus : Prop :=
  ∀ (s : ApuState) (v : Byte),
    writeEnables v s =
      { s with
        pulse1 := { s.pulse1 with enabled := v.getLsbD 0, len := if v.getLsbD 0 then s.pulse1.len else 0 }
        pulse2 := { s.pulse2 with enabled := v.getLsbD 1, len := if v.getLsbD 1 then s.pulse2.len else 0 }
        triangle := { s.triangle with enabled := v.getLsbD 2, len := if v.getLsbD 2 then s.triangle.len else 0 }
        noise := { s.noise with enabled := v.getLsbD 3, len := if v.getLsbD 3 then s.noise.len else 0 } } ∧
    (apuStatus s).toNat =
      (if s.pulse1.len = 0 then 0 else 1) + (if s.pulse2.len = 0 then 0 else 2) +
      (if s.triangle.len = 0 then 0 else 4) + (if s.noise.len = 0 then 0 else 8)

namespace Sys2Proof.Statements

/-- Bits lo to lo + n - 1 of a byte, as a number. -/
def bitsOf (v : Byte) (lo n : Nat) : Nat := v.toNat / 2 ^ lo % 2 ^ n

/-- The length table of R389, by index. -/
def lengthRow : List Nat :=
  [10, 254, 20, 2, 40, 4, 80, 6, 160, 8, 60, 10, 14, 12, 26, 14, 12, 16, 24, 18, 48, 20, 96, 22, 192, 24, 72, 26, 16,
   28, 32, 30]

/-- A length counter after `LengthLoad(v[7:3])` (R389): loaded where the channel is enabled, else kept. -/
def LengthAfter (enabled : Bool) (v before after : Byte) : Prop :=
  (enabled = true → lengthRow[bitsOf v 3 5]? = some after.toNat) ∧ (enabled = false → after = before)

/-- What a write of v to register r (0 to 3) makes of a pulse channel (R380). -/
def PulseWrite (r : Nat) (v : Byte) (p q : PulseState) : Prop :=
  match r with
  | 0 => q = { p with duty := q.duty, env := { p.env with
      halt := pBit 5 v, constVol := pBit 4 v, vol := q.env.vol } } ∧ q.duty.toNat = bitsOf v 6 2 ∧
      q.env.vol.toNat = bitsOf v 0 4
  | 1 => q = { p with
      sweepEn := pBit 7 v, sweepPeriod := q.sweepPeriod, sweepNeg := pBit 3 v, sweepShift := q.sweepShift
      sweepReload := true } ∧ q.sweepPeriod.toNat = bitsOf v 4 3 ∧ q.sweepShift.toNat = bitsOf v 0 3
  | 2 => q = { p with period := q.period } ∧ q.period.toNat = p.period.toNat / 256 * 256 + v.toNat
  | _ => q = { p with period := q.period, len := q.len, env := { p.env with start := true }, seqPos := 0 } ∧
      q.period.toNat = p.period.toNat % 256 + 256 * bitsOf v 0 3 ∧ LengthAfter p.enabled v p.len q.len

/-- What a write of v to register r (0 to 3) makes of the triangle (R380). -/
def TriangleWrite (r : Nat) (v : Byte) (p q : TriangleState) : Prop :=
  match r with
  | 0 => q = { p with control := pBit 7 v, linReloadValue := q.linReloadValue } ∧
      q.linReloadValue.toNat = bitsOf v 0 7
  | 1 => q = p
  | 2 => q = { p with period := q.period } ∧ q.period.toNat = p.period.toNat / 256 * 256 + v.toNat
  | _ => q = { p with period := q.period, len := q.len, linReload := true } ∧
      q.period.toNat = p.period.toNat % 256 + 256 * bitsOf v 0 3 ∧ LengthAfter p.enabled v p.len q.len

/-- What a write of v to register r (0 to 3) makes of the noise channel (R380). -/
def NoiseWrite (r : Nat) (v : Byte) (p q : NoiseState) : Prop :=
  match r with
  | 0 => q = { p with env := { p.env with halt := pBit 5 v, constVol := pBit 4 v, vol := q.env.vol } } ∧
      q.env.vol.toNat = bitsOf v 0 4
  | 1 => q = p
  | 2 => q = { p with mode := pBit 7 v, periodIndex := q.periodIndex } ∧ q.periodIndex.toNat = bitsOf v 0 4
  | _ => q = { p with len := q.len, env := { p.env with start := true } } ∧ LengthAfter p.enabled v p.len q.len

end Sys2Proof.Statements

/-- R380, R389, R413: what each write to $4000-$4013 makes of its channel, and that it leaves the others; the DMC's
registers are ignored. -/
def Obligations.ApuChannelWrites : Prop :=
  ∀ (s : ApuState) (v : Byte) (r : Nat), r < 4 →
    (PulseWrite r v s.pulse1 (writeChannel r v s).pulse1 ∧
      writeChannel r v s = { s with pulse1 := (writeChannel r v s).pulse1 }) ∧
    (PulseWrite r v s.pulse2 (writeChannel (4 + r) v s).pulse2 ∧
      writeChannel (4 + r) v s = { s with pulse2 := (writeChannel (4 + r) v s).pulse2 }) ∧
    (TriangleWrite r v s.triangle (writeChannel (8 + r) v s).triangle ∧
      writeChannel (8 + r) v s = { s with triangle := (writeChannel (8 + r) v s).triangle }) ∧
    (NoiseWrite r v s.noise (writeChannel (12 + r) v s).noise ∧
      writeChannel (12 + r) v s = { s with noise := (writeChannel (12 + r) v s).noise }) ∧
    writeChannel (16 + r) v s = s

/-- R383, R387: a $4017 write sets the mode and the inhibit bit at once and starts the countdown; with delay 0 the reset
runs at the write: the divider and the step are cleared and, in 4-step mode, one quarter and one half frame run. -/
def Sys2Proof.Statements.FrameCounterWrite : Prop :=
  ∀ (s : ApuState) (v : Byte) (delay : Nat),
    (0 < delay → writeFrameCounter delay v s =
      { s with fsMode := pBit 7 v, irqInhibit := pBit 6 v, resetCountdown := delay }) ∧
    writeFrameCounter 0 v s = frameReset { s with fsMode := pBit 7 v, irqInhibit := pBit 6 v, resetCountdown := 0 } ∧
    (s.fsMode = true → frameReset s = { s with fsDivider := 0, fsStep := 0 }) ∧
    (s.fsMode = false → frameReset s = halfFrame (quarterFrame { s with fsDivider := 0, fsStep := 0 }))

/-- R381 to R383, R387: $4015 and $4017. -/
def Obligations.ApuControlRegisters : Prop :=
  Statements.ApuEnablesAndStatus ∧ Statements.FrameCounterWrite

/-- R77, R64, R72: a byte stored at any mirror of internal RAM is read back at every mirror of the same byte, and only
there; the same holds of PRG-RAM where present. The premise on RAM is part of the invariant of
Obligations.StepKeepsInvariant. -/
def Sys2Proof.Statements.StoresReadBack : Prop :=
  ∀ (s t : State) (a b : Addr) (v : Byte), s.ram.wf = true → (∀ m, s.prgRam = some m → m.wf = true) →
    memWrite a v s = .next t →
    (a.toNat < 0x2000 → b.toNat < 0x2000 →
      memRead b t = .next (if b.toNat % 0x800 = a.toNat % 0x800 then v else s.ram.read (b.toNat % 0x800), t)) ∧
    (0x6000 ≤ a.toNat → a.toNat < 0x8000 → memRead a t = .next (v, t))

/-- R74: a byte stored in internal RAM is the byte the next fetch of it reads. -/
def Sys2Proof.Statements.StoreIsFetchedNext : Prop :=
  ∀ (s t : State) (a : Addr) (v : Byte), s.ram.wf = true → a.toNat < 0x2000 → memWrite a v s = .next t →
    codeByte t a = some v

/-- R72, R74, R77: a stored byte is what is read and fetched after. -/
def Obligations.StoredBytesReadBack : Prop :=
  Statements.StoresReadBack ∧ Statements.StoreIsFetchedNext

/-! ## The PPU sequencer -/

namespace Sys2Proof.Statements

/-- The position lies in the frame (R349). -/
def inFrame (p : PpuState) : Prop := p.scanline < 262 ∧ p.dot < 341

/-- The position's dot count from (0, 0), j ticks on (R355). -/
def positionAfter (j : Nat) (p : PpuState) : Nat := (p.scanline * 341 + p.dot + j) % 89342

/-- (241, 1) and (261, 1) as dot counts (R357, R362). -/
def vblankStart : Nat := 241 * 341 + 1
def vblankEnd : Nat := 261 * 341 + 1

/-- Some tick of the first n arrives at the position. -/
def arrives (n target : Nat) (p : PpuState) : Prop := ∃ j, 1 ≤ j ∧ j ≤ n ∧ positionAfter j p = target

end Sys2Proof.Statements

/-- R355: n dot ticks move the position n dots on through frames of 262 lines of 341 dots, with no dot skipped; the registers
and the RAMs are kept. -/
def Obligations.DotTicksMoveThePosition : Prop :=
  ∀ (n : Nat) (r : PpuRun), inFrame r.ppu →
    inFrame (dotTicks n r).ppu ∧ framePosition (dotTicks n r).ppu = positionAfter n r.ppu ∧
    (dotTicks n r).ppu.ctrl = r.ppu.ctrl ∧ (dotTicks n r).ppu.mask = r.ppu.mask ∧
    (dotTicks n r).ppu.chrRam = r.ppu.chrRam ∧ (dotTicks n r).ppu.nametables = r.ppu.nametables

/-- R356 to R358: a run of c CPU cycles is 3c ticks; it reports a frame exactly where one of them arrives at (241, 1), and an
NMI exactly where one does and PPUCTRL bit 7 is 1. -/
def Sys2Proof.Statements.PpuRunReportsNmiAtVblank : Prop :=
  ∀ (c : Nat) (p : PpuState), inFrame p →
    ((ppuRun c p).frame = true ↔ arrives (3 * c) vblankStart p) ∧
    ((ppuRun c p).nmi = true ↔ (p.ctrl.getLsbD 7 = true ∧ arrives (3 * c) vblankStart p))

/-- R357: the vblank flag after a run is set exactly where the last of the two positions (241, 1) and (261, 1) arrived at is
(241, 1), or neither was arrived at and it was set before. -/
def Sys2Proof.Statements.VblankFollowsThePosition : Prop :=
  ∀ (c : Nat) (p : PpuState), inFrame p →
    ((ppuRun c p).ppu.vblank = true ↔
      (∃ j, 1 ≤ j ∧ j ≤ 3 * c ∧ positionAfter j p = vblankStart ∧
        ∀ k, j < k → k ≤ 3 * c → positionAfter k p ≠ vblankEnd) ∨
      (p.vblank = true ∧ ¬ arrives (3 * c) vblankEnd p))

/-- R356 to R358: what a PPU run reports and leaves. -/
def Obligations.VblankAndNmi : Prop :=
  Statements.PpuRunReportsNmiAtVblank ∧ Statements.VblankFollowsThePosition

/-! ## The APU -/

/-- R392, R393: the envelope clock's three cases, and the volume. -/
def Sys2Proof.Statements.EnvelopeClock : Prop :=
  ∀ e : Envelope,
    (e.start = true → clockEnvelope e = { e with start := false, decay := 15, divider := e.vol }) ∧
    (e.start = false → e.divider = 0 → ∃ d, clockEnvelope e = { e with divider := e.vol, decay := d } ∧
      d.toNat = if 0 < e.decay.toNat then e.decay.toNat - 1 else if e.halt then 15 else 0) ∧
    (e.start = false → 0 < e.divider.toNat → ∃ d, clockEnvelope e = { e with divider := d } ∧
      d.toNat = e.divider.toNat - 1) ∧
    envVolume e = (if e.constVol then e.vol.toNat else e.decay.toNat) ∧ envVolume e ≤ 15

/-- R390, R403: the length clock counts down to 0 and stays there, or is halted; the linear counter reloads or counts down,
and its reload flag stays only while `control` is set. -/
def Sys2Proof.Statements.LengthAndLinearClocks : Prop :=
  (∀ (halt : Bool) (len : Byte), (clockLength halt len).toNat = if halt then len.toNat else len.toNat - 1) ∧
  ∀ t : TriangleState,
    clockLinear t = { t with lin := (clockLinear t).lin, linReload := t.control && t.linReload } ∧
    (clockLinear t).lin.toNat = if t.linReload then t.linReloadValue.toNat else t.lin.toNat - 1

namespace Sys2Proof.Statements

/-- The sweep target of R397. -/
def targetOf (isPulse1 : Bool) (p : PulseState) : Int :=
  if p.sweepNeg then
    (p.period.toNat : Int) - p.period.toNat / 2 ^ p.sweepShift.toNat - (if isPulse1 then 1 else 0)
  else (p.period.toNat : Int) + p.period.toNat / 2 ^ p.sweepShift.toNat

/-- The channel is muted (R398). -/
def mutedAt (isPulse1 : Bool) (p : PulseState) : Prop := p.period.toNat < 8 ∨ 0x7FF < targetOf isPulse1 p

end Sys2Proof.Statements

/-- R397 to R399: the sweep clock writes the target, a negative one as 0, exactly where the divider is 0, the sweep is
enabled with a shift, and the channel is not muted; the divider reloads or counts down; the reload flag is clear
after. -/
def Sys2Proof.Statements.SweepClock : Prop :=
  ∀ (isPulse1 : Bool) (p : PulseState),
    sweepTarget isPulse1 p = targetOf isPulse1 p ∧ (pulseMuted isPulse1 p = true ↔ mutedAt isPulse1 p) ∧
    (∃ period divider, clockSweep isPulse1 p =
      { p with period := period, sweepDivider := divider, sweepReload := false }) ∧
    ((p.sweepDivider = 0 ∧ p.sweepEn = true ∧ p.sweepShift ≠ 0 ∧ ¬ mutedAt isPulse1 p) →
      ((clockSweep isPulse1 p).period.toNat : Int) = max (targetOf isPulse1 p) 0) ∧
    (¬ (p.sweepDivider = 0 ∧ p.sweepEn = true ∧ p.sweepShift ≠ 0 ∧ ¬ mutedAt isPulse1 p) →
      (clockSweep isPulse1 p).period = p.period) ∧
    ((p.sweepDivider = 0 ∨ p.sweepReload = true) → (clockSweep isPulse1 p).sweepDivider = p.sweepPeriod) ∧
    (¬ (p.sweepDivider = 0 ∨ p.sweepReload = true) →
      (clockSweep isPulse1 p).sweepDivider.toNat = p.sweepDivider.toNat - 1)

/-- R390, R392, R393, R397 to R399, R403: the envelope, length, linear and sweep units. -/
def Obligations.ApuUnitClocks : Prop :=
  Statements.EnvelopeClock ∧ Statements.LengthAndLinearClocks ∧ Statements.SweepClock

namespace Sys2Proof.Statements

/-- The noise periods of R407, in APU cycles, by index. -/
def noisePeriods : List Nat := [2, 4, 8, 16, 32, 48, 64, 80, 101, 127, 190, 254, 381, 508, 1017, 2034]

end Sys2Proof.Statements

/-- R395, R402, R407, R408: the three timers: at 0 each reloads and moves its sequencer (the triangle's only while both counters
are above 0, the noise reloads its table period less 1 and shifts the LFSR once), else it counts down. -/
def Obligations.TimersAndSequencers : Prop :=
  (∀ p : PulseState,
    (p.timer = 0 → clockPulseTimer p = { p with timer := p.period, seqPos := p.seqPos + 1 }) ∧
    (p.timer ≠ 0 → clockPulseTimer p = { p with timer := p.timer - 1 })) ∧
  (∀ t : TriangleState,
    (t.timer = 0 → 0 < t.len.toNat ∧ 0 < t.lin.toNat →
      clockTriangleTimer t = { t with timer := t.period, seqPos := t.seqPos + 1 }) ∧
    (t.timer = 0 → ¬ (0 < t.len.toNat ∧ 0 < t.lin.toNat) → clockTriangleTimer t = { t with timer := t.period }) ∧
    (t.timer ≠ 0 → clockTriangleTimer t = { t with timer := t.timer - 1 })) ∧
  ∀ n : NoiseState,
    (n.timer = 0 → ∃ (l : BitVec 15) (period : Nat), noisePeriods[n.periodIndex.toNat]? = some period ∧
      clockNoiseTimer n = { n with timer := period - 1, lfsr := l } ∧
      (∀ k, k < 14 → l.getLsbD k = n.lfsr.getLsbD (k + 1)) ∧
      l.getLsbD 14 = (n.lfsr.getLsbD 0 != n.lfsr.getLsbD (if n.mode then 6 else 1))) ∧
    (n.timer ≠ 0 → clockNoiseTimer n = { n with timer := n.timer - 1 })

namespace Sys2Proof.Statements

/-- The duty table of R396: where the output bit is 1. -/
def dutyHigh (duty pos : Nat) : Bool :=
  match duty with
  | 0 => pos == 1
  | 1 => pos == 1 || pos == 2
  | 2 => decide (1 ≤ pos) && decide (pos ≤ 4)
  | _ => pos != 1 && pos != 2

end Sys2Proof.Statements

/-- R396, R400, R404, R405, R409: the three outputs: 0 where a length or linear counter, the mute, the triangle's period or
the LFSR silences the channel, else the duty bit times the volume, the triangle's step, the volume; never above 15. -/
def Obligations.ChannelOutputs : Prop :=
  (∀ (isPulse1 : Bool) (p : PulseState),
    ((p.len = 0 ∨ mutedAt isPulse1 p) → pulseOut isPulse1 p = 0) ∧
    (¬ (p.len = 0 ∨ mutedAt isPulse1 p) →
      pulseOut isPulse1 p = if dutyHigh p.duty.toNat p.seqPos.toNat then envVolume p.env else 0) ∧
    pulseOut isPulse1 p ≤ 15) ∧
  (∀ t : TriangleState,
    ((t.len = 0 ∨ t.lin = 0 ∨ t.period.toNat < 5) → triangleOut t = 0) ∧
    (¬ (t.len = 0 ∨ t.lin = 0 ∨ t.period.toNat < 5) →
      triangleOut t = if t.seqPos.toNat < 16 then 15 - t.seqPos.toNat else t.seqPos.toNat - 16)) ∧
  ∀ n : NoiseState,
    ((n.len = 0 ∨ n.lfsr.getLsbD 0 = true) → noiseOut n = 0) ∧
    (¬ (n.len = 0 ∨ n.lfsr.getLsbD 0 = true) → noiseOut n = envVolume n.env) ∧ noiseOut n ≤ 15

namespace Sys2Proof.Statements

/-- The step's actions in the schedule of R386: quarter frame, half frame. -/
def scheduled (fiveStep : Bool) (step : Nat) : Bool × Bool :=
  match fiveStep, step with
  | _, 0 => (true, false)
  | _, 1 => (true, true)
  | _, 2 => (true, false)
  | false, 3 => (true, true)
  | true, 3 => (false, false)
  | true, 4 => (true, true)
  | _, _ => (false, false)

/-- How many ticks of the frame sequencer n CPU cycles make, counted from a divider of 0 (R388). -/
def ticksIn (n : Nat) : Nat := n / 7457

/-- How many of the first n CPU cycles from s on tick the frame sequencer at a step that does the action. -/
def actionCycles (act : Bool × Bool → Bool) (n : Nat) (s : ApuState) : Nat :=
  ((List.range n).filter fun j =>
    decide ((apuRun j s).fsDivider = 7456) && act (scheduled (apuRun j s).fsMode (apuRun j s).fsStep)).length

/-- The APU's channels clocked for one step's actions, with the step moved on. -/
def afterActions (act : Bool × Bool) (next : Nat) (s : ApuState) : ApuState :=
  let s1 := if act.1 then quarterFrame s else s
  let s2 := if act.2 then halfFrame s1 else s1
  { s2 with fsStep := next }

end Sys2Proof.Statements

/-- R385, R386: a tick does the scheduled actions of the step, quarter frame before half frame, and moves the step on modulo 4
or 5; which units each action clocks, and that a pulse's length counter is clocked before its sweep unit. -/
def Obligations.FrameSchedule : Prop :=
  (∀ s : ApuState, s.fsStep < 5 →
    (s.fsMode = false → frameTick s = afterActions (scheduled false (s.fsStep % 4)) ((s.fsStep % 4 + 1) % 4) s) ∧
    (s.fsMode = true → frameTick s = afterActions (scheduled true s.fsStep) ((s.fsStep + 1) % 5) s)) ∧
  (∀ s : ApuState, quarterFrame s =
    { s with
      pulse1 := { s.pulse1 with env := clockEnvelope s.pulse1.env }
      pulse2 := { s.pulse2 with env := clockEnvelope s.pulse2.env }
      triangle := clockLinear s.triangle
      noise := { s.noise with env := clockEnvelope s.noise.env } }) ∧
  ∀ s : ApuState, halfFrame s =
    { s with
      pulse1 := clockSweep true { s.pulse1 with len := clockLength s.pulse1.env.halt s.pulse1.len }
      pulse2 := clockSweep false { s.pulse2 with len := clockLength s.pulse2.env.halt s.pulse2.len }
      triangle := { s.triangle with len := clockLength s.triangle.control s.triangle.len }
      noise := { s.noise with len := clockLength s.noise.env.halt s.noise.len } }

/-- R384: one CPU cycle, in order: the countdown, whose expiry is the frame reset; the frame divider, whose 7457th count is a
frame tick; the triangle's timer; and, where the parity becomes 0, the timers of both pulses and of the noise. -/
def Sys2Proof.Statements.CpuCycleInOrder : Prop :=
  ∀ s : ApuState, ∃ s1 s2 : ApuState,
    (s.resetCountdown = 0 → s1 = s) ∧
    (s.resetCountdown = 1 → s1 = frameReset { s with resetCountdown := 0 }) ∧
    (1 < s.resetCountdown → s1 = { s with resetCountdown := s.resetCountdown - 1 }) ∧
    (s1.fsDivider + 1 = 7457 → s2 = frameTick { s1 with fsDivider := 0 }) ∧
    (s1.fsDivider + 1 ≠ 7457 → s2 = { s1 with fsDivider := s1.fsDivider + 1 }) ∧
    (s2.parity = false →
      apuCycle s = { s2 with triangle := clockTriangleTimer s2.triangle, parity := true }) ∧
    (s2.parity = true →
      apuCycle s = { s2 with
        triangle := clockTriangleTimer s2.triangle, parity := false
        pulse1 := clockPulseTimer s2.pulse1, pulse2 := clockPulseTimer s2.pulse2
        noise := clockNoiseTimer s2.noise }) ∧
    (apuRun 0 s = s ∧ ∀ n, apuRun (n + 1) s = apuRun n (apuCycle s))

/-- R384, R385, R388: n CPU cycles in which no countdown expires tick the sequencer once every 7457, carry the divider and the
parity on, move the step on by the number of ticks, and count a pending countdown down; and counted from a divider and a
step of 0, the cycles that run a quarter frame and a half frame (by the tick of CpuCycleInOrder and its schedule, R386) are
as many as R388 says. -/
def Sys2Proof.Statements.FrameSequencerRate : Prop :=
  (∀ (n : Nat) (s : ApuState), (s.resetCountdown = 0 ∨ n < s.resetCountdown) → s.fsDivider < 7457 →
    s.fsStep < (if s.fsMode then 5 else 4) →
    (apuRun n s).fsDivider = (s.fsDivider + n) % 7457 ∧
    (apuRun n s).parity = (s.parity ^^ decide (n % 2 = 1)) ∧
    (apuRun n s).resetCountdown = s.resetCountdown - n ∧
    (apuRun n s).fsMode = s.fsMode ∧ (apuRun n s).irqInhibit = s.irqInhibit ∧
    (apuRun n s).fsStep = (s.fsStep + ticksIn (s.fsDivider + n)) % (if s.fsMode then 5 else 4)) ∧
  ∀ (n : Nat) (s : ApuState), s.resetCountdown = 0 → s.fsDivider = 0 → s.fsStep = 0 →
    (s.fsMode = false →
      actionCycles (·.1) n s = ticksIn n ∧ actionCycles (·.2) n s = ticksIn n / 2) ∧
    (s.fsMode = true →
      actionCycles (·.1) n s = 4 * (ticksIn n / 5) + min (ticksIn n % 5) 3 ∧
      actionCycles (·.2) n s = 2 * (ticksIn n / 5) + (if 2 ≤ ticksIn n % 5 then 1 else 0))

/-- R383, R384, R387: a countdown of d cycles expires in the d-th cycle and no sooner: that cycle is a frame reset followed by
what a cycle without a countdown does; the reset clears the divider and the step and, in 4-step mode, runs one quarter
frame and then one half frame. -/
def Sys2Proof.Statements.CountdownRunsTheReset : Prop :=
  (∀ (d : Nat) (s : ApuState), s.resetCountdown = d + 1 →
    apuRun (d + 1) s = apuCycle (frameReset { apuRun d s with resetCountdown := 0 }) ∧
    (apuRun (d + 1) s).resetCountdown = 0 ∧ (apuRun (d + 1) s).fsDivider = 1 ∧ (apuRun (d + 1) s).fsStep = 0 ∧
    ∀ n, n ≤ d → (apuRun n s).resetCountdown = d + 1 - n) ∧
  ∀ s : ApuState,
    (s.fsMode = true → frameReset s = { s with fsDivider := 0, fsStep := 0 }) ∧
    (s.fsMode = false → frameReset s = halfFrame (quarterFrame { s with fsDivider := 0, fsStep := 0 }))

/-- R384, R385, R387, R388: what a CPU cycle does, and when the frame sequencer ticks and is reset. -/
def Obligations.FrameSequencerTiming : Prop :=
  Statements.CpuCycleInOrder ∧ Statements.FrameSequencerRate ∧ Statements.CountdownRunsTheReset

/-! ## The mappers -/

namespace Sys2Proof.Statements

/-- n MMC1 writes to the given addresses, each with its byte. -/
def mmc1Writes (f : NesFile) : List (Addr × Byte) → Mmc1 × Windows → Out (Mmc1 × Windows)
  | [], rw => .next rw
  | (a, v) :: rest, rw => andThen (mmc1Write f a v rw.1 rw.2) (mmc1Writes f rest)

/-- The five bits, the first written the lowest (R113). -/
def fiveBits (b0 b1 b2 b3 b4 : Bool) : BitVec 5 :=
  BitVec.ofNat 5 (b0.toNat + 2 * b1.toNat + 4 * b2.toNat + 8 * b3.toNat + 16 * b4.toNat)

/-- The register the fifth write's address selects holds the value; shift and count are cleared (R113, R114). -/
def committed (a : Addr) (value : BitVec 5) (r : Mmc1) : Mmc1 :=
  if a.toNat / 0x2000 = 4 then { r with shift := 0, count := 0, control := value }
  else if a.toNat / 0x2000 = 5 then { r with shift := 0, count := 0, chrBank0 := value }
  else if a.toNat / 0x2000 = 6 then { r with shift := 0, count := 0, chrBank1 := value }
  else { r with shift := 0, count := 0, prgBank := value }

/-- A byte with bit 7 clear. -/
def shiftsIn (v : Byte) : Prop := v.getLsbD 7 = false

end Sys2Proof.Statements

/-- R112 to R114: one write: with bit 7 set it clears the shift register and the count and changes nothing else; with bit 7
clear it shifts its low bit in at the top, and the fifth commits the value to the register its address selects and remaps. -/
def Sys2Proof.Statements.Mmc1Write : Prop :=
  ∀ (f : NesFile) (r : Mmc1) (w : Windows) (a : Addr) (v : Byte),
    (v.getLsbD 7 = true → mmc1Write f a v r w = .next ({ r with shift := 0, count := 0 }, w)) ∧
    (shiftsIn v → ∃ value : BitVec 5, value.toNat = r.shift.toNat / 2 + 16 * (v.toNat % 2) ∧
      (r.count < 4 → mmc1Write f a v r w = .next ({ r with shift := value, count := r.count + 1 }, w)) ∧
      (r.count = 4 → 0x8000 ≤ a.toNat → mmc1Write f a v r w =
        andThen (mmc1Remap f (committed a value r) w) fun w1 => .next (committed a value r, w1)))

/-- R113, R118: from an empty shift register, five writes with bit 7 clear commit once: their low bits, the first lowest, go to
the register that the fifth address selects, and the windows are remapped. -/
def Sys2Proof.Statements.Mmc1FiveWrites : Prop :=
  ∀ (f : NesFile) (r : Mmc1) (w : Windows) (a1 a2 a3 a4 a5 : Addr) (v1 v2 v3 v4 v5 : Byte), r.count = 0 →
    0x8000 ≤ a5.toNat → shiftsIn v1 → shiftsIn v2 → shiftsIn v3 → shiftsIn v4 → shiftsIn v5 →
    mmc1Writes f [(a1, v1), (a2, v2), (a3, v3), (a4, v4), (a5, v5)] (r, w) =
      andThen
        (mmc1Remap f
          (committed a5
            (fiveBits (v1.getLsbD 0) (v2.getLsbD 0) (v3.getLsbD 0) (v4.getLsbD 0) (v5.getLsbD 0)) r) w)
        fun w1 => .next
          (committed a5
            (fiveBits (v1.getLsbD 0) (v2.getLsbD 0) (v3.getLsbD 0) (v4.getLsbD 0) (v5.getLsbD 0)) r, w1)

/-- R112 to R114, R118: the serial protocol, one write and five. -/
def Obligations.Mmc1SerialProtocol : Prop :=
  Statements.Mmc1Write ∧ Statements.Mmc1FiveWrites

namespace Sys2Proof.Statements

/-- The PRG window offsets of R116: of the low and of the high half. -/
def prgOffsets (size : Nat) (r : Mmc1) : Nat × Nat :=
  let b := r.prgBank.toNat % 16
  match r.control.toNat / 4 % 4 with
  | 0 => (b / 2 * 2 * 16384, b / 2 * 2 * 16384 + 16384)
  | 1 => (b / 2 * 2 * 16384, b / 2 * 2 * 16384 + 16384)
  | 2 => (0, b * 16384)
  | _ => (b * 16384, size - 16384)

/-- The CHR window offsets of R116. -/
def chrOffsets (r : Mmc1) : Nat × Nat :=
  if r.control.toNat / 16 % 2 = 0 then
    (r.chrBank0.toNat / 2 * 2 * 4096, r.chrBank0.toNat / 2 * 2 * 4096 + 4096)
  else (r.chrBank0.toNat * 4096, r.chrBank1.toNat * 4096)

/-- The windows that `Remap()` asks for, in order: width, offset, size of the image. -/
def requestedWindows (prg chr : Nat) (r : Mmc1) : List (Nat × Nat × Nat) :=
  (if r.control.toNat / 4 % 4 < 2 then [(32768, (prgOffsets prg r).1, prg)]
   else [(16384, (prgOffsets prg r).1, prg), (16384, (prgOffsets prg r).2, prg)]) ++
  (if chr = 0 then [] else [(4096, (chrOffsets r).1, chr), (4096, (chrOffsets r).2, chr)])

/-- The offset of the first of them that lies outside its image (R105, R106). -/
def firstOutside (prg chr : Nat) (r : Mmc1) : Option Nat :=
  ((requestedWindows prg chr r).find? fun q => decide (q.2.2 < q.2.1 + q.1)).map (·.2.1)

end Sys2Proof.Statements

/-- R104 to R107, R116: `Remap()` sets the PRG windows and, where the image has CHR bytes, the CHR windows from the registers;
where a window it requests lies outside its image it faults with the offset of the first such one; remapping again changes
nothing (R125). -/
def Obligations.Mmc1Remap : Prop :=
  ∀ (f : NesFile) (r : Mmc1) (w : Windows),
    (∀ o, firstOutside f.prg.size f.chr.size r = some o → mmc1Remap f r w = .fault (.bankOutOfRange o)) ∧
    (firstOutside f.prg.size f.chr.size r = none → mmc1Remap f r w = .next
      { prgLo := (prgOffsets f.prg.size r).1
        prgHi := (prgOffsets f.prg.size r).2
        chr0 := if f.chr.size = 0 then w.chr0 else (chrOffsets r).1
        chr1 := if f.chr.size = 0 then w.chr1 else (chrOffsets r).2 }) ∧
    (∀ w1, mmc1Remap f r w = .next w1 → mmc1Remap f r w1 = .next w1)

/-- R110, R120, R123: an NROM write to $8000-$FFFF faults; a UxROM write takes the whole byte as the bank of the low window,
or faults past the image with the offset; an NSF bank write stores the byte verbatim and turns banking on. -/
def Sys2Proof.Statements.BankWrites : Prop :=
  (∀ (f : NesFile) (w : Windows) (a : Addr) (v : Byte),
    mapperWrite f a v .nrom w = .fault (.unsupportedBankSwitch a v)) ∧
  (∀ (f : NesFile) (w : Windows) (a : Addr) (v bank : Byte),
    (v.toNat * 16384 + 16384 ≤ f.prg.size →
      mapperWrite f a v (.uxrom bank) w = .next (.uxrom v, { w with prgLo := v.toNat * 16384 })) ∧
    (f.prg.size < v.toNat * 16384 + 16384 →
      mapperWrite f a v (.uxrom bank) w = .fault (.bankOutOfRange (v.toNat * 16384)))) ∧
  ∀ (i : Nat) (v : Byte) (banks : Vector Byte 8) (banked : Bool), i < 8 →
    ∃ banks', nsfBankWrite i v (.nsf banks banked) = .nsf banks' true ∧
      ∀ k (h : k < 8), banks'[k] = if k = i then v else banks[k]

/-- R124: a read of $8000-$FFFF in NSF mode: through the bank of its 4 KiB page once banked, by the load address before, and
no byte outside the data. -/
def Sys2Proof.Statements.NsfReads : Prop :=
  ∀ (f : NsfFile) (banks : Vector Byte 8) (a : Addr), 0x8000 ≤ a.toNat →
    (∀ k, (a.toNat : Int) - f.load.toNat = k →
      nsfRead f (.nsf banks false) a =
        if 0 ≤ k ∧ k < f.data.size then some (f.data.cells.read k.toNat) else none) ∧
    (∀ (h : (a.toNat - 0x8000) / 4096 < 8) k,
      banks[(a.toNat - 0x8000) / 4096].toNat * 4096 + (a.toNat - 0x8000) % 4096 = k →
      nsfRead f (.nsf banks true) a = if k < f.data.size then some (f.data.cells.read k) else none)

/-- R110, R120, R123, R124: bank writes of NROM, UxROM and NSF, and NSF reads. -/
def Obligations.BankWritesAndNsfReads : Prop :=
  Statements.BankWrites ∧ Statements.NsfReads

/-- R103, R109, R117, R119, R122: `initialize()` of each variant on the images it takes, and the faults of the others. -/
def Obligations.MapperInitialize : Prop :=
  (∀ f : NesFile, f.mapperId = 0 → (f.chr.size = 0 ∨ 8192 ≤ f.chr.size) → f.prg.size = 16384 →
    ∃ w, powerUpMapper (.nes f) = .next (.nrom, w) ∧ w.prgLo = 0 ∧ w.prgHi = 0 ∧
      (0 < f.chr.size → w.chr0 = 0 ∧ w.chr1 = 4096)) ∧
  (∀ f : NesFile, f.mapperId = 0 → (f.chr.size = 0 ∨ 8192 ≤ f.chr.size) → f.prg.size = 32768 →
    ∃ w, powerUpMapper (.nes f) = .next (.nrom, w) ∧ w.prgLo = 0 ∧ w.prgHi = 16384 ∧
      (0 < f.chr.size → w.chr0 = 0 ∧ w.chr1 = 4096)) ∧
  (∀ f : NesFile, f.mapperId = 0 → f.prg.size ≠ 16384 → f.prg.size ≠ 32768 →
    powerUpMapper (.nes f) = .fault (.bankOutOfRange f.prg.size)) ∧
  (∀ f : NesFile, f.mapperId = 1 → (f.chr.size = 0 ∨ 8192 ≤ f.chr.size) → 16384 ≤ f.prg.size →
    ∃ w, powerUpMapper (.nes f) =
        .next (.mmc1 { shift := 0, count := 0, control := 0x0C, chrBank0 := 0, chrBank1 := 0, prgBank := 0 }, w) ∧
      w.prgLo = 0 ∧ w.prgHi = f.prg.size - 16384 ∧ (0 < f.chr.size → w.chr0 = 0 ∧ w.chr1 = 4096)) ∧
  (∀ f : NesFile, f.mapperId = 2 → (f.chr.size = 0 ∨ 8192 ≤ f.chr.size) → 16384 ≤ f.prg.size →
    ∃ w, powerUpMapper (.nes f) = .next (.uxrom 0, w) ∧ w.prgLo = 0 ∧ w.prgHi = f.prg.size - 16384 ∧
      (0 < f.chr.size → w.chr0 = 0 ∧ w.chr1 = 4096)) ∧
  (∀ f : NesFile, f.mapperId.toNat < 3 → (f.prg.size = 16384 ∨ f.prg.size = 32768) → 0 < f.chr.size →
    f.chr.size < 8192 → ∃ offset, powerUpMapper (.nes f) = .fault (.bankOutOfRange offset)) ∧
  (∀ f : NesFile, f.mapperId = 1 ∨ f.mapperId = 2 → f.prg.size < 16384 →
    powerUpMapper (.nes f) = .fault (.bankOutOfRange 0)) ∧
  (∀ f : NesFile, f.mapperId = 1 → 16384 ≤ f.prg.size → 0 < f.chr.size → f.chr.size < 8192 →
    powerUpMapper (.nes f) = .fault (.bankOutOfRange (if f.chr.size < 4096 then 0 else 4096))) ∧
  (∀ f : NesFile, f.mapperId = 2 → 16384 ≤ f.prg.size → 0 < f.chr.size → f.chr.size < 8192 →
    ∃ offset, powerUpMapper (.nes f) = .fault (.bankOutOfRange offset)) ∧
  (∀ f : NesFile, 3 ≤ f.mapperId.toNat → powerUpMapper (.nes f) = .fault (.unsupportedMapper f.mapperId.toNat)) ∧
  ∀ f : NsfFile, ∃ w, powerUpMapper (.nsf f) = .next (.nsf f.banks0 false, w)

/-- R125: switching again to the same bank changes nothing: one more UxROM write of the same byte, five more MMC1 writes of
the same bits to the same address. -/
def Obligations.BankSwitchIsIdempotent : Prop :=
  (∀ (f : NesFile) (a : Addr) (v bank : Byte) (w : Windows) (m : MapperState) (w1 : Windows),
    mapperWrite f a v (.uxrom bank) w = .next (m, w1) → mapperWrite f a v m w1 = .next (m, w1)) ∧
  ∀ (f : NesFile) (a : Addr) (v1 v2 v3 v4 v5 : Byte) (r r1 : Mmc1) (w w1 : Windows), r.count = 0 →
    shiftsIn v1 → shiftsIn v2 → shiftsIn v3 → shiftsIn v4 → shiftsIn v5 →
    mmc1Writes f [(a, v1), (a, v2), (a, v3), (a, v4), (a, v5)] (r, w) = .next (r1, w1) →
    mmc1Writes f [(a, v1), (a, v2), (a, v3), (a, v4), (a, v5)] (r1, w1) = .next (r1, w1)

/-- R106 to R108: pattern memory is CHR-RAM where the image has no CHR bytes, else the window that bit 12 selects; the
nametable translation pairs the tables as the mirroring flag says. -/
def Obligations.PpuAddressSpace : Prop :=
  (∀ (f : NesFile) (w : Windows) (p : PpuState) (pa : BitVec 13),
    patternRead f w p pa =
      if f.chr.size = 0 then p.chrRam.read pa.toNat
      else if pa.toNat < 0x1000 then f.chr.cells.read (w.chr0 + pa.toNat)
      else f.chr.cells.read (w.chr1 + (pa.toNat - 0x1000))) ∧
  ∀ pa : BitVec 14,
    nametableIndex true pa = pa.toNat % 0x800 ∧
    nametableIndex false pa = pa.toNat % 0x400 + pa.toNat / 0x800 % 2 * 0x400 ∧
    (∀ (f : NesFile) (p : PpuState), nametableRead f p pa = p.nametables.read (nametableIndex f.vertical pa))

/-! ## The mixer -/

/-- R410: the binary64 and binary32 roundings of the mixer are to nearest: the significand has p bits, the result is within
half a unit in the last place of the fraction (a quarter where it was rounded up to a power of two, below which the numbers
lie twice as dense), and a tie goes to the even significand. -/
def Obligations.RoundingIsToNearestEven : Prop :=
  ∀ p num den : Nat, 2 ≤ p → 0 < num → 0 < den →
    2 ^ (p - 1) ≤ (roundFraction p num den).man ∧ (roundFraction p num den).man < 2 ^ p ∧
    2 * (((roundFraction p num den).num * den : Nat) - ((num * (roundFraction p num den).den : Nat) : Int)).natAbs ≤
      2 ^ (roundFraction p num den).exp.toNat * den ∧
    ((roundFraction p num den).man = 2 ^ (p - 1) →
      num * (roundFraction p num den).den < (roundFraction p num den).num * den →
      4 * ((roundFraction p num den).num * den - num * (roundFraction p num den).den) ≤
        2 ^ (roundFraction p num den).exp.toNat * den) ∧
    (2 * (((roundFraction p num den).num * den : Nat) - ((num * (roundFraction p num den).den : Nat) : Int)).natAbs =
        2 ^ (roundFraction p num den).exp.toNat * den → (roundFraction p num den).man % 2 = 0)

/-- R384, R410: one sample per CPU cycle; and where all four channels are silenced the sample is 0. -/
def Obligations.SamplesPerCycleAndSilence : Prop :=
  (∀ (c : Nat) (s : ApuState), (apuSamples c s).length = c ∧
    ∀ k, k < c → (apuSamples c s)[k]? = some (mixerSample (apuRun (k + 1) s))) ∧
  ∀ s : ApuState, s.pulse1.len = 0 → s.pulse2.len = 0 → s.triangle.len = 0 → s.noise.len = 0 → mixerSample s = 0

namespace Sys2Proof.Statements

/-- Of the exact values x + k, hundredths / 100 / x (the constant rounded first) and x + y: the binary64 roundings (R410). -/
def roundedSum (x : Flt) (k : Nat) : Flt := roundFraction 53 (x.num + k * x.den) x.den
def roundedOver (hundredths : Nat) (x : Flt) : Flt :=
  roundFraction 53 ((roundFraction 53 hundredths 100).num * x.den) ((roundFraction 53 hundredths 100).den * x.num)
def roundedPlus (x y : Flt) : Flt := roundFraction 53 (x.num * y.den + y.num * x.den) (x.den * y.den)

/-- The sum in the triangle and noise group: t / 8227 + n / 12241 (R410; d is 0 by R413). -/
def tndSum (t n : Nat) : Flt := roundedPlus (roundFraction 53 t 8227) (roundFraction 53 n 12241)

end Sys2Proof.Statements

/-- R410, R413: the two groups of the mixer for outputs up to 15, 0 where they are silent, and their sum; every operation
rounded as Obligations.RoundingIsToNearestEven says, in the order the formulas write them, which is the model's reading (log
entry 14). -/
def Sys2Proof.Statements.MixerGroups : Prop :=
  (∀ p1 p2 : Nat, p1 ≤ 15 → p2 ≤ 15 →
    (p1 + p2 = 0 → mixPulses p1 p2 = Flt.zero) ∧
    (0 < p1 + p2 → mixPulses p1 p2 = roundedOver 9588 (roundedSum (roundFraction 53 8128 (p1 + p2)) 100))) ∧
  (∀ t n : Nat, t ≤ 15 → n ≤ 15 →
    (t + n = 0 → mixTnd t n 0 = Flt.zero) ∧
    (0 < t + n → mixTnd t n 0 =
      roundedOver 15979 (roundedSum (roundFraction 53 (tndSum t n).den (tndSum t n).num) 100))) ∧
  ∀ p1 p2 t n : Nat, mixerValue p1 p2 t n = roundedPlus (mixPulses p1 p2) (mixTnd t n 0)

/-- R410: the binary32 word of a number: 0 for 0; else, in the range of the normal numbers, sign 0, the biased exponent and the
fraction of its 24-bit rounding. The sample is the word of the mixer value of the four outputs. -/
def Sys2Proof.Statements.SampleIsBinary32 : Prop :=
  toBinary32 Flt.zero = 0 ∧
  (∀ x : Flt, 0 < x.man → -149 ≤ (roundFraction 24 x.num x.den).exp → (roundFraction 24 x.num x.den).exp ≤ 104 →
    (toBinary32 x).getLsbD 31 = false ∧
    ((toBinary32 x).toNat / 2 ^ 23 % 256 : Int) = (roundFraction 24 x.num x.den).exp + 150 ∧
    (toBinary32 x).toNat % 2 ^ 23 + 2 ^ 23 = (roundFraction 24 x.num x.den).man) ∧
  ∀ s : ApuState, mixerSample s =
    toBinary32 (mixerValue (pulseOut true s.pulse1) (pulseOut false s.pulse2) (triangleOut s.triangle) (noiseOut s.noise))

/-- R410: the mixer's formulas and the sample's encoding. -/
def Obligations.MixerFormulas : Prop :=
  Statements.MixerGroups ∧ Statements.SampleIsBinary32

/-- R411: the full blocks of n samples cut from a stream: each has n samples, together they are the stream's beginning, and
what is left over is less than a block. -/
def Sys2Proof.Statements.BlocksAreFull : Prop :=
  ∀ (n : Nat) (stream : List (BitVec 32)), 0 < n →
    (∀ b ∈ fullBlocks stream.length n stream, b.length = n) ∧
    ∃ rest, rest.length < n ∧ (fullBlocks stream.length n stream).flatten ++ rest = stream

/-- R411: a block as bytes: four for each sample, the lowest first. -/
def Sys2Proof.Statements.BlocksAreLittleEndian : Prop :=
  ∀ block : List (BitVec 32), (blockBytes block).length = 4 * block.length ∧
    ∀ k w, block[k]? = some w → ∀ i, i < 4 →
      (blockBytes block)[4 * k + i]? = some (BitVec.ofNat 8 (w.toNat / 256 ^ i))

/-- R410, R411, R455, R459: a granted step, an instruction or an NMI entry, adds its samples, one a cycle, to those since
power-up, and the host gets back the frame report and the blocks that they completed. That the sequence is held in State and
what is handed over is read off it is the model's choice (log entry 15), and so is that a step with no move listed is granted
(log entry 5). -/
def Sys2Proof.Statements.StepsHandOverTheirBlocks : Prop :=
  ∀ s t : State, s.run = .running → grantsStep s → step s = .next t →
    t.cycles = s.cycles + t.out.samples.length ∧ t.audio.reverse = s.audio.reverse ++ t.out.samples ∧
    (grantReturns t).1 = t.out.frame ∧
    (grantReturns t).2 =
      ((audioBlocks t.audio.reverse).drop (audioBlocks s.audio.reverse).length).map blockBytes

/-- R411: the audio output. -/
def Obligations.AudioBlocksAreHandedOver : Prop :=
  Statements.BlocksAreFull ∧ Statements.BlocksAreLittleEndian ∧ Statements.StepsHandOverTheirBlocks

/-! ## Containers and power-up -/

namespace Sys2Proof.Statements

/-- The size formula of R102. -/
def sizeOf (lo hi unit : Nat) : Nat :=
  if hi = 15 then 2 ^ (lo / 4) * (lo % 4 * 2 + 1) else (hi * 256 + lo) * unit

/-- Byte i of a container as a number. -/
def at_ (file : List Byte) (i : Nat) : Nat := (file.getD i 0).toNat

/-- The sizes an iNES header states (R101). -/
def prgBytes (file : List Byte) : Nat := sizeOf (at_ file 4) (at_ file 9 % 16) 16384
def chrBytes (file : List Byte) : Nat := sizeOf (at_ file 5) (at_ file 9 / 16) 8192
def trainerBytes (file : List Byte) : Nat := if at_ file 6 / 4 % 2 = 1 then 512 else 0

/-- The image holds n bytes of the container from byte i on. -/
def holdsBytes (im : Image) (file : List Byte) (i n : Nat) : Prop :=
  im.size = n ∧ ∀ k, k < n → im.cells.read k = file.getD (i + k) 0

/-- A little-endian word of the container (R65). -/
def wordIn (file : List Byte) (i : Nat) : Nat := at_ file i + 256 * at_ file (i + 1)

end Sys2Proof.Statements

/-- R101, R102: an iNES container parses into the bytes, the mapper id and the mirroring flag of its header, the trainer
skipped; a wrong magic and a file that is too short fault with their reasons (a file with both is taken as a wrong magic,
log entry 11). -/
def Sys2Proof.Statements.NesContainerParses : Prop :=
  ∀ file : List Byte,
    (file.take 4 ≠ [0x4E, 0x45, 0x53, 0x1A] → parseNes file = .fault (.containerParseError .magic)) ∧
    (file.take 4 = [0x4E, 0x45, 0x53, 0x1A] →
      file.length < 16 + trainerBytes file + prgBytes file + chrBytes file →
      parseNes file = .fault (.containerParseError .truncated)) ∧
    (file.take 4 = [0x4E, 0x45, 0x53, 0x1A] →
      16 + trainerBytes file + prgBytes file + chrBytes file ≤ file.length →
      ∃ f, parseNes file = .next f ∧ holdsBytes f.prg file (16 + trainerBytes file) (prgBytes file) ∧
        holdsBytes f.chr file (16 + trainerBytes file + prgBytes file) (chrBytes file) ∧
        f.mapperId.toNat = at_ file 6 / 16 ∧ f.vertical = decide (at_ file 6 % 2 = 1))

/-- R121: an NSF container parses into the fields of its $80-byte header and the data after it; a wrong magic and a file
shorter than the header fault. -/
def Sys2Proof.Statements.NsfContainerParses : Prop :=
  ∀ file : List Byte,
    (file.take 5 ≠ [0x4E, 0x45, 0x53, 0x4D, 0x1A] → parseNsf file = .fault (.containerParseError .magic)) ∧
    (file.take 5 = [0x4E, 0x45, 0x53, 0x4D, 0x1A] → file.length < 128 →
      parseNsf file = .fault (.containerParseError .truncated)) ∧
    (file.take 5 = [0x4E, 0x45, 0x53, 0x4D, 0x1A] → 128 ≤ file.length →
      ∃ f, parseNsf file = .next f ∧ f.songs.toNat = at_ file 6 ∧ f.start.toNat = at_ file 7 ∧
        f.load.toNat = wordIn file 8 ∧ f.init.toNat = wordIn file 10 ∧ f.play.toNat = wordIn file 12 ∧
        f.ntscSpeed.toNat = wordIn file 0x6E ∧ (∀ k (h : k < 8), f.banks0[k].toNat = at_ file (0x70 + k)) ∧
        holdsBytes f.data file 128 (file.length - 128))

/-- R101, R102, R121: the two containers. -/
def Obligations.ContainersParse : Prop :=
  Statements.NesContainerParses ∧ Statements.NsfContainerParses

namespace Sys2Proof.Statements

/-- Every state element but PC and the mapper has its power-up value (R451); A, X, Y and the RAMs have their draws. That
`reachedPlay` is false, that the parameters are kept, and that no sample is held, are the model's (log entries 20, 21, 15). -/
def PoweredUp (before u : State) (c : Cartridge) (t : Byte) (d : Draws) : Prop :=
  u.a = d.a ∧ u.x = d.x ∧ u.y = d.y ∧ u.sp = 0xFD ∧ u.p = 0x34 ∧ u.cycles = 0 ∧ u.run = .running ∧
  u.nmiPending = false ∧ u.reachedPlay = false ∧ u.cart = c ∧ u.track = t ∧ u.params = before.params ∧
  (∀ k, k < 2048 → u.ram.read k = d.ram.getD k 0) ∧
  (before.params.prgRamPresent = false → u.prgRam = none) ∧
  (before.params.prgRamPresent = true → ∃ m, u.prgRam = some m ∧ ∀ k, k < 8192 → m.read k = d.prgRam.getD k 0) ∧
  (∀ k, k < 8192 → u.ppu.chrRam.read k = d.chrRam.getD k 0) ∧
  (u.ppu.ctrl = 0 ∧ u.ppu.mask = 0 ∧ u.ppu.vblank = false ∧ u.ppu.scanline = 0 ∧ u.ppu.dot = 0) ∧
  u.apu = ApuState.reset ∧ u.audio = [] ∧ u.pad = { strobe := false, shift := 0 }

end Sys2Proof.Statements

/-- R450 to R453: power-up: a fault of the mapper's `initialize()` is the load's; else every state element has its value of
R451, the mapper is as `initialize()` left it, and PC is the word at $FFFC through its windows, or $5000 in NSF mode. Of
`PoweredUp`, the play note, the kept parameters and the empty sample list are the model's choice (log entries 20, 21, 15). -/
def Obligations.PowerUpSetsEveryElement : Prop :=
  ∀ (before : State) (c : Cartridge) (t : Byte) (d : Draws),
    (∀ e, powerUpMapper c = .fault e → powerUp before c t d = .fault e) ∧
    (∀ mw, powerUpMapper c = .next mw → ∃ u, powerUp before c t d = .next u ∧ PoweredUp before u c t d ∧
      u.mapper = mw.1 ∧ u.windows = mw.2 ∧
      (∀ f, c = .nes f → u.pc = word (prgRead f mw.2 0xFFFD) (prgRead f mw.2 0xFFFC)) ∧
      (∀ f, c = .nsf f → u.pc = 0x5000))

/-- R453: the NSF bootstrap, byte by byte: 11 bytes with no initial bank, else 40 bytes more that write the eight bank
registers in order; where the play call and the spin instruction stand. -/
def Obligations.NsfBootstrapProgram : Prop :=
  ∀ (f : NsfFile) (t : Byte),
    ((∀ k (h : k < 8), f.banks0[k] = 0) →
      bootProgram f t = [0xA9, t, 0x20, loByte f.init, hiByte f.init, 0x20, loByte f.play, hiByte f.play,
        0x4C, 0x08, 0x50] ∧ playCall f = 0x5005 ∧ spinAt f = 0x5008) ∧
    ((∃ k, ∃ h : k < 8, f.banks0[k] ≠ 0) →
      (bootProgram f t).length = 51 ∧
      (∀ k (h : k < 8), ((bootProgram f t).drop (5 * k)).take 5 =
        [0xA9, f.banks0[k], 0x8D, BitVec.ofNat 8 (0xF8 + k), 0x5F]) ∧
      (bootProgram f t).drop 40 = [0xA9, t, 0x20, loByte f.init, hiByte f.init, 0x20, loByte f.play, hiByte f.play,
        0x4C, 0x30, 0x50] ∧ playCall f = 0x502D ∧ spinAt f = 0x5030)

/-! ## Runs and the host -/

namespace Sys2Proof.Statements

/-- The state after n steps, a stop settled as R320 says. -/
def runFor : Nat → State → State
  | 0, s => s
  | n + 1, s => runFor n (settle s (step s))

end Sys2Proof.Statements

/-- R321 to R323: a step that faults or is refused leaves the whole state as it was but the run state, and the run stays so
for ever. That `settle` gives the state after a stop, and that a step of an ended run answers the same stop again (R322
says that no step follows), is the model's choice (log entry 6). -/
def Obligations.StopsArePreciseAndFinal : Prop :=
  ∀ (s : State) (n : Nat), s.run = .running →
    (∀ e, step s = .fault e → runFor (n + 1) s = { s with run := .faulted e } ∧
      step (runFor (n + 1) s) = .fault e) ∧
    (∀ r, step s = .refused r → runFor (n + 1) s = { s with run := .refused r } ∧
      step (runFor (n + 1) s) = .refused r)

/-- R324, R331: the host's end on budget takes effect exactly where a budget is set and exceeded, leaves all else as it was,
and is final; otherwise the move changes nothing (log entry 22). -/
def Sys2Proof.Statements.BudgetEndsTheRun : Prop :=
  ∀ (s : State) (rest : List HostMove) (n : Nat), s.run = .running → s.hostQueue = .endOnBudget :: rest →
    ((s.params.cycleBudget ≠ 0 ∧ s.params.cycleBudget < s.cycles) →
      step s = .next { s with hostQueue := rest, run := .terminated } ∧
      runFor (n + 1) s = { s with hostQueue := rest, run := .terminated }) ∧
    (¬ (s.params.cycleBudget ≠ 0 ∧ s.params.cycleBudget < s.cycles) → step s = .next { s with hostQueue := rest })

/-- R454: the play timer forces PC to the play call once it has been reached, with nothing pushed and no other change; a
track change is a fresh boot with the new track. That the move does nothing before the call was reached, and that the note
is made where the granted step ends, is the model's choice (log entry 20), as is that an empty list grants the step (log
entry 5). -/
def Sys2Proof.Statements.PlayTimerAndTrackChange : Prop :=
  ∀ (s : State) (f : NsfFile) (rest : List HostMove), s.run = .running → s.cart = .nsf f →
    (s.hostQueue = .playTimer :: rest →
      step s = .next { s with hostQueue := rest, pc := if s.reachedPlay then playCall f else s.pc }) ∧
    (∀ t d, s.hostQueue = .changeTrack t d :: rest →
      step s = powerUp { s with hostQueue := rest } (.nsf f) t d) ∧
    (∀ t, grantsStep s → step s = .next t →
      t.reachedPlay = (s.reachedPlay || decide (t.pc = playCall f)))

/-- R450, R459: a load parses its container and powers up with it, an NSF with the track `start - 1` (modulo 256, log entry 19);
a container that does not parse faults the step; withholding changes nothing. -/
def Sys2Proof.Statements.LoadsPowerUp : Prop :=
  ∀ (s : State) (rest : List HostMove) (file : List Byte) (d : Draws), s.run = .running →
    (s.hostQueue = .loadNes file d :: rest →
      (∀ e, parseNes file = .fault e → step s = .fault e) ∧
      (∀ f, parseNes file = .next f → step s = powerUp { s with hostQueue := rest } (.nes f) 0 d)) ∧
    (s.hostQueue = .loadNsf file d :: rest →
      (∀ e, parseNsf file = .fault e → step s = .fault e) ∧
      (∀ f, parseNsf file = .next f → ∃ t : Byte, t.toNat = (f.start.toNat + 255) % 256 ∧
        step s = powerUp { s with hostQueue := rest } (.nsf f) t d)) ∧
    (s.hostQueue = .withhold :: rest → step s = .next { s with hostQueue := rest })

/-- R324, R450, R454, R459: the host's moves on a running CORE. That a budget move (log entry 22) and a play-timer move (log
entry 20) do nothing where the spec does not allow them, when the play call counts as reached (log entry 20), that an empty
list grants the step (log entry 5), and the first track of a starting song of 0 (log entry 19), are the model's choice. -/
def Obligations.HostMovesTakeEffect : Prop :=
  Statements.BudgetEndsTheRun ∧ Statements.PlayTimerAndTrackChange ∧ Statements.LoadsPowerUp

/-! ## Invariants -/

/-- R26: no step writes the two B bits: once both are 1 they stay 1, through every instruction, interrupt, return and
power-up. -/
def Obligations.BBitsStaySet : Prop :=
  ∀ s t : State, s.p &&& 0x30 = 0x30 → step s = .next t → t.p &&& 0x30 = 0x30

/-- The state of reset meets the invariant. That it stands for a power-up with a blank cartridge and draws of zeros is the
model's choice (log entries 1 to 3). -/
def Obligations.ResetMeetsInvariant : Prop := Inv State.reset

/-- Every step keeps the invariant: both B bits set; the memories canonical and of their sizes; the PPU's position in the
frame and three dots per cycle from power-up, vblank set only between (241, 1) and (261, 1); the APU's ranges and parity,
with one sample held for each cycle (log entry 15);
the mapper's registers and windows in agreement and inside the images. -/
def Obligations.StepKeepsInvariant : Prop :=
  ∀ s t : State, Inv s → step s = .next t → Inv t
end

