-- ==== Sys2Proof/Laws/Devices.lean ====
section
/-!
SUPPORT. Laws of the devices: one tick and one cycle say what they keep, and each induction over a run is packaged once.
-/

namespace Sys2Proof.Machine

/-! ## The PPU sequencer -/

/-- A predicate that every dot tick keeps is kept by any number of them. -/
theorem dotTicks_keeps {P : PpuRun → Prop} (h : ∀ r, P r → P (dotTick r)) : ∀ n r, P r → P (dotTicks n r)
  | 0, _, hr => hr
  | n + 1, r, hr => dotTicks_keeps h n (dotTick r) (h r hr)

/-- A run of m + n ticks is a run of m and then of n. -/
theorem dotTicks_add (m n : Nat) (r : PpuRun) : dotTicks (m + n) r = dotTicks n (dotTicks m r) := by
  induction m generalizing r with
  | zero => simp [dotTicks]
  | succ m ih => simp [Nat.succ_add, dotTicks, ih]

/-- The last tick of n + 1 on its own. -/
theorem dotTicks_succ (n : Nat) (r : PpuRun) : dotTicks (n + 1) r = dotTick (dotTicks n r) := dotTicks_add n 1 r

/-- The events at a position write the vblank flag and the two reports, nothing else. -/
theorem positionEvents_keeps (r : PpuRun) :
    (positionEvents r).ppu.scanline = r.ppu.scanline ∧ (positionEvents r).ppu.dot = r.ppu.dot ∧
    (positionEvents r).ppu.ctrl = r.ppu.ctrl ∧ (positionEvents r).ppu.mask = r.ppu.mask ∧
    (positionEvents r).ppu.chrRam = r.ppu.chrRam ∧ (positionEvents r).ppu.nametables = r.ppu.nametables := by
  unfold positionEvents
  split
  · simp
  · split <;> simp

/-- A dot tick keeps the registers and the RAMs. -/
theorem dotTick_keeps (r : PpuRun) :
    (dotTick r).ppu.ctrl = r.ppu.ctrl ∧ (dotTick r).ppu.mask = r.ppu.mask ∧
    (dotTick r).ppu.chrRam = r.ppu.chrRam ∧ (dotTick r).ppu.nametables = r.ppu.nametables := by
  simp [dotTick, positionEvents_keeps]

/-- The position after a dot tick. -/
theorem dotTick_position (r : PpuRun) :
    ((dotTick r).ppu.scanline, (dotTick r).ppu.dot) = nextPosition r.ppu.scanline r.ppu.dot := by
  simp [dotTick, positionEvents_keeps]

/-! ## The APU -/

/-- A predicate that every APU cycle keeps is kept by any run. -/
theorem apuRun_keeps {P : ApuState → Prop} (h : ∀ s, P s → P (apuCycle s)) : ∀ c s, P s → P (apuRun c s)
  | 0, _, hs => hs
  | c + 1, s, hs => apuRun_keeps h c (apuCycle s) (h s hs)

/-- A run of m + n cycles is a run of m and then of n. -/
theorem apuRun_add (m n : Nat) (s : ApuState) : apuRun (m + n) s = apuRun n (apuRun m s) := by
  induction m generalizing s with
  | zero => simp [apuRun]
  | succ m ih => simp [Nat.succ_add, apuRun, ih]

/-- The last cycle of c + 1 on its own. -/
theorem apuRun_succ (c : Nat) (s : ApuState) : apuRun (c + 1) s = apuCycle (apuRun c s) := apuRun_add c 1 s

/-- A frame tick moves the step and clocks the channels; the rest of the sequencer stays. -/
theorem frameTick_keeps (s : ApuState) :
    (frameTick s).fsMode = s.fsMode ∧ (frameTick s).irqInhibit = s.irqInhibit ∧ (frameTick s).fsDivider = s.fsDivider ∧
    (frameTick s).resetCountdown = s.resetCountdown ∧ (frameTick s).parity = s.parity ∧
    (frameTick s).fsStep = (s.fsStep % frameSteps s.fsMode + 1) % frameSteps s.fsMode := by
  dsimp only [frameTick]
  split <;> split <;> exact ⟨rfl, rfl, rfl, rfl, rfl, rfl⟩

/-- A frame reset clears the divider and the step; the rest of the sequencer stays. -/
theorem frameReset_keeps (s : ApuState) :
    (frameReset s).fsMode = s.fsMode ∧ (frameReset s).irqInhibit = s.irqInhibit ∧ (frameReset s).fsDivider = 0 ∧
    (frameReset s).resetCountdown = s.resetCountdown ∧ (frameReset s).parity = s.parity ∧ (frameReset s).fsStep = 0 := by
  dsimp only [frameReset]
  split <;> exact ⟨rfl, rfl, rfl, rfl, rfl, rfl⟩

/-- The timers leave the sequencer alone and turn the parity. -/
theorem clockTimers_keeps (s : ApuState) :
    (clockTimers s).fsMode = s.fsMode ∧ (clockTimers s).irqInhibit = s.irqInhibit ∧
    (clockTimers s).fsDivider = s.fsDivider ∧ (clockTimers s).fsStep = s.fsStep ∧
    (clockTimers s).resetCountdown = s.resetCountdown ∧ (clockTimers s).parity = !s.parity := by
  dsimp only [clockTimers]
  split <;> exact ⟨rfl, rfl, rfl, rfl, rfl, rfl⟩

end Sys2Proof.Machine
end

