-- ==== Sys2Proof/Laws/Memory.lean ====
section
/-!
SUPPORT. The laws of byte memories: a write is read back and leaves every other index alone; every operation keeps the
canonical form and the size; memories in canonical form that read the same are equal.
-/

namespace Sys2Proof.Machine

@[simp] theorem Memory.read_nil (k : Nat) : Memory.read [] k = unlistedByte := rfl

theorem Memory.read_cons (a : Nat) (b : Byte) (m : Memory) (k : Nat) :
    Memory.read ((a, b) :: m) k = if a = k then b else Memory.read m k := rfl

theorem Memory.write_cons (a : Nat) (b : Byte) (m : Memory) (k : Nat) (v : Byte) :
    Memory.write ((a, b) :: m) k v =
      if k < a then (if v = unlistedByte then (a, b) :: m else (k, v) :: (a, b) :: m)
      else if k = a then (if v = unlistedByte then m else (k, v) :: m)
      else (a, b) :: Memory.write m k v := rfl

theorem Memory.risingFrom_cons {lo a : Nat} {b : Byte} {m : Memory} :
    Memory.risingFrom lo ((a, b) :: m) = true ↔ lo ≤ a ∧ b ≠ unlistedByte ∧ Memory.risingFrom (a + 1) m = true := by
  simp [Memory.risingFrom, and_assoc]

/-- A canonical form from an index on is one from every lower index on. -/
theorem Memory.risingFrom_mono {lo lo' : Nat} (h : lo ≤ lo') :
    ∀ {m : Memory}, Memory.risingFrom lo' m = true → Memory.risingFrom lo m = true
  | [], _ => rfl
  | (_, _) :: _, hm => by
    rw [Memory.risingFrom_cons] at hm ⊢
    exact ⟨h.trans hm.1, hm.2⟩

/-- Below its first index a canonical memory lists nothing. -/
theorem Memory.read_of_lt {m : Memory} {lo k : Nat} (hm : Memory.risingFrom lo m = true) (hk : k < lo) :
    Memory.read m k = unlistedByte := by
  induction m generalizing lo with
  | nil => rfl
  | cons c m ih =>
    obtain ⟨a, b⟩ := c
    rw [Memory.risingFrom_cons] at hm
    rw [Memory.read_cons, if_neg (by omega), ih hm.2.2 (by omega)]

/-- A byte written to a canonical memory is read back. -/
theorem Memory.read_write_same {m : Memory} (k : Nat) (v : Byte) :
    ∀ {lo : Nat}, Memory.risingFrom lo m = true → (m.write k v).read k = v := by
  induction m with
  | nil =>
    intro lo _
    by_cases hv : v = unlistedByte <;> simp [Memory.write, hv, Memory.read_cons]
  | cons c m ih =>
    obtain ⟨a, b⟩ := c
    intro lo hm
    rw [Memory.risingFrom_cons] at hm
    rw [Memory.write_cons]
    rcases lt_trichotomy k a with h | h | h
    · rw [if_pos h]
      split
      · rw [Memory.read_cons, if_neg (by omega), Memory.read_of_lt hm.2.2 (by omega)]; exact Eq.symm ‹_›
      · rw [Memory.read_cons, if_pos rfl]
    · subst h
      rw [if_neg (lt_irrefl _), if_pos rfl]
      split
      · rw [Memory.read_of_lt hm.2.2 (by omega)]; exact Eq.symm ‹_›
      · rw [Memory.read_cons, if_pos rfl]
    · rw [if_neg (by omega), if_neg (by omega), Memory.read_cons, if_neg (by omega), ih hm.2.2]

/-- A write leaves every other index alone. -/
theorem Memory.read_write_other (m : Memory) {k j : Nat} (v : Byte) (h : j ≠ k) :
    (m.write k v).read j = m.read j := by
  induction m with
  | nil => by_cases hv : v = unlistedByte <;> simp [Memory.write, hv, Memory.read_cons, Ne.symm h]
  | cons c m ih =>
    obtain ⟨a, b⟩ := c
    rw [Memory.write_cons]
    split
    · split
      · rfl
      · rw [Memory.read_cons k, if_neg (Ne.symm h)]
    · split
      · subst_vars
        split <;> simp [Memory.read_cons, Ne.symm h]
      · rw [Memory.read_cons, Memory.read_cons, ih]

/-- A write keeps the canonical form. -/
theorem Memory.risingFrom_write {m : Memory} {k : Nat} (v : Byte) :
    ∀ {lo : Nat}, Memory.risingFrom lo m = true → lo ≤ k → Memory.risingFrom lo (m.write k v) = true := by
  induction m with
  | nil =>
    intro lo _ hk
    by_cases hv : v = unlistedByte
    · simp [Memory.write, hv, Memory.risingFrom]
    · simp [Memory.write, hv, Memory.risingFrom, hk]
  | cons c m ih =>
    obtain ⟨a, b⟩ := c
    intro lo hm hk
    have hm' := hm
    rw [Memory.risingFrom_cons] at hm
    rw [Memory.write_cons]
    split
    · split
      · exact hm'
      · rw [Memory.risingFrom_cons]
        exact ⟨hk, ‹_›, Memory.risingFrom_cons.2 ⟨by omega, hm.2⟩⟩
    · split
      · split
        · exact Memory.risingFrom_mono (by omega) hm.2.2
        · subst_vars
          exact Memory.risingFrom_cons.2 ⟨hk, ‹_›, hm.2.2⟩
      · exact Memory.risingFrom_cons.2 ⟨hm.1, hm.2.1, ih hm.2.2 (by omega)⟩

theorem Memory.wf_write {m : Memory} (k : Nat) (v : Byte) (h : m.wf = true) : (m.write k v).wf = true :=
  Memory.risingFrom_write v h (Nat.zero_le _)

theorem Memory.below_cons {n a : Nat} {b : Byte} {m : Memory} :
    Memory.below n ((a, b) :: m) = true ↔ a < n ∧ Memory.below n m = true := by
  rw [Memory.below, List.all_cons, Bool.and_eq_true, decide_eq_true_eq, ← Memory.below]

/-- A write inside the size keeps the size. -/
theorem Memory.below_write {n : Nat} {m : Memory} {k : Nat} (v : Byte) (h : m.below n = true) (hk : k < n) :
    (m.write k v).below n = true := by
  induction m with
  | nil => by_cases hv : v = unlistedByte <;> simp [Memory.write, hv, Memory.below, hk]
  | cons c m ih =>
    obtain ⟨a, b⟩ := c
    have h' := h
    rw [Memory.below_cons] at h
    rw [Memory.write_cons]
    split
    · split
      · exact h'
      · exact Memory.below_cons.2 ⟨hk, h'⟩
    · split
      · split
        · exact h.2
        · exact Memory.below_cons.2 ⟨hk, h.2⟩
      · exact Memory.below_cons.2 ⟨h.1, ih h.2⟩

theorem Memory.risingFrom_ofBytesFrom (bs : List Byte) :
    ∀ {lo lo' : Nat}, lo ≤ lo' → Memory.risingFrom lo (Memory.ofBytesFrom lo' bs) = true := by
  induction bs with
  | nil => intro _ _ _; rfl
  | cons b bs ih =>
    intro lo lo' h
    unfold Memory.ofBytesFrom
    split
    · exact ih (by omega)
    · exact Memory.risingFrom_cons.2 ⟨h, ‹_›, ih (le_refl _)⟩

/-- The memory of given bytes is canonical. -/
theorem Memory.wf_ofBytes (n : Nat) (bs : List Byte) : (Memory.ofBytes n bs).wf = true :=
  Memory.risingFrom_ofBytesFrom _ (Nat.zero_le _)

theorem Memory.below_ofBytesFrom (bs : List Byte) :
    ∀ {lo n : Nat}, lo + bs.length ≤ n → (Memory.ofBytesFrom lo bs).below n = true := by
  induction bs with
  | nil => intro _ _ _; rfl
  | cons b bs ih =>
    intro lo n h
    simp only [List.length_cons] at h
    have hm := ih (lo := lo + 1) (n := n) (by omega)
    unfold Memory.ofBytesFrom
    split
    · exact hm
    · exact Memory.below_cons.2 ⟨by omega, hm⟩

/-- The memory of n given bytes has size n. -/
theorem Memory.below_ofBytes (n : Nat) (bs : List Byte) : (Memory.ofBytes n bs).below n = true :=
  Memory.below_ofBytesFrom _ (by simp)

theorem Memory.read_ofBytesFrom (bs : List Byte) :
    ∀ (lo i : Nat), (Memory.ofBytesFrom lo bs).read (lo + i) = bs.getD i unlistedByte := by
  induction bs with
  | nil => intro _ _; rfl
  | cons b bs ih =>
    intro lo i
    have hr := Memory.risingFrom_ofBytesFrom bs (le_refl (lo + 1))
    unfold Memory.ofBytesFrom
    cases i with
    | zero =>
      split
      · rw [Memory.read_of_lt hr (by omega)]; simp_all
      · simp [Memory.read_cons]
    | succ i =>
      have e : lo + (i + 1) = lo + 1 + i := by omega
      split
      · rw [e, ih]; simp
      · rw [Memory.read_cons, if_neg (by omega), e, ih]; simp

/-- The memory of given bytes reads them. -/
theorem Memory.read_ofBytes {n i : Nat} (bs : List Byte) (h : i < n) :
    (Memory.ofBytes n bs).read i = bs.getD i unlistedByte := by
  have := Memory.read_ofBytesFrom (bs.take n) 0 i
  rw [Nat.zero_add] at this
  unfold Memory.ofBytes
  rw [this]
  simp [List.getD, h]

/-- Canonical memories that read the same at every index are equal. -/
theorem Memory.eq_of_read {m m' : Memory} :
    ∀ {lo : Nat}, Memory.risingFrom lo m = true → Memory.risingFrom lo m' = true →
      (∀ k, m.read k = m'.read k) → m = m' := by
  induction m generalizing m' with
  | nil =>
    intro lo _ h' hr
    cases m' with
    | nil => rfl
    | cons c m' =>
      obtain ⟨a, b⟩ := c
      rw [Memory.risingFrom_cons] at h'
      have := hr a
      simp [Memory.read_cons] at this
      exact absurd this.symm h'.2.1
  | cons c m ih =>
    obtain ⟨a, b⟩ := c
    intro lo h h' hr
    rw [Memory.risingFrom_cons] at h
    cases m' with
    | nil =>
      have := hr a
      simp [Memory.read_cons] at this
      exact absurd this h.2.1
    | cons c' m' =>
      obtain ⟨a', b'⟩ := c'
      rw [Memory.risingFrom_cons] at h'
      have key : a = a' := by
        rcases lt_trichotomy a a' with hlt | heq | hlt
        · have := hr a
          rw [Memory.read_cons, if_pos rfl, Memory.read_cons, if_neg (by omega),
            Memory.read_of_lt h'.2.2 (by omega)] at this
          exact absurd this h.2.1
        · exact heq
        · have := hr a'
          rw [Memory.read_cons, if_neg (by omega), Memory.read_cons, if_pos rfl,
            Memory.read_of_lt h.2.2 (by omega)] at this
          exact absurd this.symm h'.2.1
      subst key
      have hb := hr a
      simp only [Memory.read_cons, if_true] at hb
      subst hb
      have hrest : m = m' := by
        refine ih h.2.2 h'.2.2 fun k => ?_
        by_cases hk : a = k
        · subst hk
          rw [Memory.read_of_lt h.2.2 (by omega), Memory.read_of_lt h'.2.2 (by omega)]
        · have := hr k
          rwa [Memory.read_cons, Memory.read_cons, if_neg hk, if_neg hk] at this
      rw [hrest]

end Sys2Proof.Machine
end

