-- ==== Sys2Proof/Laws/State.lean ====
section
/-!
SUPPORT. What each register or device write leaves in each field of the state: one lemma per field per write, true by
unfolding, so that no later proof unfolds a record update.
-/

namespace Sys2Proof.Machine

/-! ## setA -/

@[simp] theorem State.setA_a (s : State) (v : Byte) : (s.setA v).a = v := rfl
@[simp] theorem State.setA_x (s : State) (v : Byte) : (s.setA v).x = s.x := rfl
@[simp] theorem State.setA_y (s : State) (v : Byte) : (s.setA v).y = s.y := rfl
@[simp] theorem State.setA_sp (s : State) (v : Byte) : (s.setA v).sp = s.sp := rfl
@[simp] theorem State.setA_pc (s : State) (v : Byte) : (s.setA v).pc = s.pc := rfl
@[simp] theorem State.setA_p (s : State) (v : Byte) : (s.setA v).p = s.p := rfl
@[simp] theorem State.setA_cycles (s : State) (v : Byte) : (s.setA v).cycles = s.cycles := rfl
@[simp] theorem State.setA_run (s : State) (v : Byte) : (s.setA v).run = s.run := rfl
@[simp] theorem State.setA_nmiPending (s : State) (v : Byte) : (s.setA v).nmiPending = s.nmiPending := rfl
@[simp] theorem State.setA_ram (s : State) (v : Byte) : (s.setA v).ram = s.ram := rfl
@[simp] theorem State.setA_prgRam (s : State) (v : Byte) : (s.setA v).prgRam = s.prgRam := rfl
@[simp] theorem State.setA_ppu (s : State) (v : Byte) : (s.setA v).ppu = s.ppu := rfl
@[simp] theorem State.setA_apu (s : State) (v : Byte) : (s.setA v).apu = s.apu := rfl
@[simp] theorem State.setA_mapper (s : State) (v : Byte) : (s.setA v).mapper = s.mapper := rfl
@[simp] theorem State.setA_windows (s : State) (v : Byte) : (s.setA v).windows = s.windows := rfl
@[simp] theorem State.setA_pad (s : State) (v : Byte) : (s.setA v).pad = s.pad := rfl
@[simp] theorem State.setA_cart (s : State) (v : Byte) : (s.setA v).cart = s.cart := rfl
@[simp] theorem State.setA_track (s : State) (v : Byte) : (s.setA v).track = s.track := rfl
@[simp] theorem State.setA_params (s : State) (v : Byte) : (s.setA v).params = s.params := rfl
@[simp] theorem State.setA_reachedPlay (s : State) (v : Byte) : (s.setA v).reachedPlay = s.reachedPlay := rfl
@[simp] theorem State.setA_buttons (s : State) (v : Byte) : (s.setA v).buttons = s.buttons := rfl
@[simp] theorem State.setA_hostQueue (s : State) (v : Byte) : (s.setA v).hostQueue = s.hostQueue := rfl
@[simp] theorem State.setA_drawCount (s : State) (v : Byte) : (s.setA v).drawCount = s.drawCount := rfl
@[simp] theorem State.setA_out (s : State) (v : Byte) : (s.setA v).out = s.out := rfl
@[simp] theorem State.setA_audio (s : State) (v : Byte) : (s.setA v).audio = s.audio := rfl

/-! ## setX -/

@[simp] theorem State.setX_a (s : State) (v : Byte) : (s.setX v).a = s.a := rfl
@[simp] theorem State.setX_x (s : State) (v : Byte) : (s.setX v).x = v := rfl
@[simp] theorem State.setX_y (s : State) (v : Byte) : (s.setX v).y = s.y := rfl
@[simp] theorem State.setX_sp (s : State) (v : Byte) : (s.setX v).sp = s.sp := rfl
@[simp] theorem State.setX_pc (s : State) (v : Byte) : (s.setX v).pc = s.pc := rfl
@[simp] theorem State.setX_p (s : State) (v : Byte) : (s.setX v).p = s.p := rfl
@[simp] theorem State.setX_cycles (s : State) (v : Byte) : (s.setX v).cycles = s.cycles := rfl
@[simp] theorem State.setX_run (s : State) (v : Byte) : (s.setX v).run = s.run := rfl
@[simp] theorem State.setX_nmiPending (s : State) (v : Byte) : (s.setX v).nmiPending = s.nmiPending := rfl
@[simp] theorem State.setX_ram (s : State) (v : Byte) : (s.setX v).ram = s.ram := rfl
@[simp] theorem State.setX_prgRam (s : State) (v : Byte) : (s.setX v).prgRam = s.prgRam := rfl
@[simp] theorem State.setX_ppu (s : State) (v : Byte) : (s.setX v).ppu = s.ppu := rfl
@[simp] theorem State.setX_apu (s : State) (v : Byte) : (s.setX v).apu = s.apu := rfl
@[simp] theorem State.setX_mapper (s : State) (v : Byte) : (s.setX v).mapper = s.mapper := rfl
@[simp] theorem State.setX_windows (s : State) (v : Byte) : (s.setX v).windows = s.windows := rfl
@[simp] theorem State.setX_pad (s : State) (v : Byte) : (s.setX v).pad = s.pad := rfl
@[simp] theorem State.setX_cart (s : State) (v : Byte) : (s.setX v).cart = s.cart := rfl
@[simp] theorem State.setX_track (s : State) (v : Byte) : (s.setX v).track = s.track := rfl
@[simp] theorem State.setX_params (s : State) (v : Byte) : (s.setX v).params = s.params := rfl
@[simp] theorem State.setX_reachedPlay (s : State) (v : Byte) : (s.setX v).reachedPlay = s.reachedPlay := rfl
@[simp] theorem State.setX_buttons (s : State) (v : Byte) : (s.setX v).buttons = s.buttons := rfl
@[simp] theorem State.setX_hostQueue (s : State) (v : Byte) : (s.setX v).hostQueue = s.hostQueue := rfl
@[simp] theorem State.setX_drawCount (s : State) (v : Byte) : (s.setX v).drawCount = s.drawCount := rfl
@[simp] theorem State.setX_out (s : State) (v : Byte) : (s.setX v).out = s.out := rfl
@[simp] theorem State.setX_audio (s : State) (v : Byte) : (s.setX v).audio = s.audio := rfl

/-! ## setY -/

@[simp] theorem State.setY_a (s : State) (v : Byte) : (s.setY v).a = s.a := rfl
@[simp] theorem State.setY_x (s : State) (v : Byte) : (s.setY v).x = s.x := rfl
@[simp] theorem State.setY_y (s : State) (v : Byte) : (s.setY v).y = v := rfl
@[simp] theorem State.setY_sp (s : State) (v : Byte) : (s.setY v).sp = s.sp := rfl
@[simp] theorem State.setY_pc (s : State) (v : Byte) : (s.setY v).pc = s.pc := rfl
@[simp] theorem State.setY_p (s : State) (v : Byte) : (s.setY v).p = s.p := rfl
@[simp] theorem State.setY_cycles (s : State) (v : Byte) : (s.setY v).cycles = s.cycles := rfl
@[simp] theorem State.setY_run (s : State) (v : Byte) : (s.setY v).run = s.run := rfl
@[simp] theorem State.setY_nmiPending (s : State) (v : Byte) : (s.setY v).nmiPending = s.nmiPending := rfl
@[simp] theorem State.setY_ram (s : State) (v : Byte) : (s.setY v).ram = s.ram := rfl
@[simp] theorem State.setY_prgRam (s : State) (v : Byte) : (s.setY v).prgRam = s.prgRam := rfl
@[simp] theorem State.setY_ppu (s : State) (v : Byte) : (s.setY v).ppu = s.ppu := rfl
@[simp] theorem State.setY_apu (s : State) (v : Byte) : (s.setY v).apu = s.apu := rfl
@[simp] theorem State.setY_mapper (s : State) (v : Byte) : (s.setY v).mapper = s.mapper := rfl
@[simp] theorem State.setY_windows (s : State) (v : Byte) : (s.setY v).windows = s.windows := rfl
@[simp] theorem State.setY_pad (s : State) (v : Byte) : (s.setY v).pad = s.pad := rfl
@[simp] theorem State.setY_cart (s : State) (v : Byte) : (s.setY v).cart = s.cart := rfl
@[simp] theorem State.setY_track (s : State) (v : Byte) : (s.setY v).track = s.track := rfl
@[simp] theorem State.setY_params (s : State) (v : Byte) : (s.setY v).params = s.params := rfl
@[simp] theorem State.setY_reachedPlay (s : State) (v : Byte) : (s.setY v).reachedPlay = s.reachedPlay := rfl
@[simp] theorem State.setY_buttons (s : State) (v : Byte) : (s.setY v).buttons = s.buttons := rfl
@[simp] theorem State.setY_hostQueue (s : State) (v : Byte) : (s.setY v).hostQueue = s.hostQueue := rfl
@[simp] theorem State.setY_drawCount (s : State) (v : Byte) : (s.setY v).drawCount = s.drawCount := rfl
@[simp] theorem State.setY_out (s : State) (v : Byte) : (s.setY v).out = s.out := rfl
@[simp] theorem State.setY_audio (s : State) (v : Byte) : (s.setY v).audio = s.audio := rfl

/-! ## setSp -/

@[simp] theorem State.setSp_a (s : State) (v : Byte) : (s.setSp v).a = s.a := rfl
@[simp] theorem State.setSp_x (s : State) (v : Byte) : (s.setSp v).x = s.x := rfl
@[simp] theorem State.setSp_y (s : State) (v : Byte) : (s.setSp v).y = s.y := rfl
@[simp] theorem State.setSp_sp (s : State) (v : Byte) : (s.setSp v).sp = v := rfl
@[simp] theorem State.setSp_pc (s : State) (v : Byte) : (s.setSp v).pc = s.pc := rfl
@[simp] theorem State.setSp_p (s : State) (v : Byte) : (s.setSp v).p = s.p := rfl
@[simp] theorem State.setSp_cycles (s : State) (v : Byte) : (s.setSp v).cycles = s.cycles := rfl
@[simp] theorem State.setSp_run (s : State) (v : Byte) : (s.setSp v).run = s.run := rfl
@[simp] theorem State.setSp_nmiPending (s : State) (v : Byte) : (s.setSp v).nmiPending = s.nmiPending := rfl
@[simp] theorem State.setSp_ram (s : State) (v : Byte) : (s.setSp v).ram = s.ram := rfl
@[simp] theorem State.setSp_prgRam (s : State) (v : Byte) : (s.setSp v).prgRam = s.prgRam := rfl
@[simp] theorem State.setSp_ppu (s : State) (v : Byte) : (s.setSp v).ppu = s.ppu := rfl
@[simp] theorem State.setSp_apu (s : State) (v : Byte) : (s.setSp v).apu = s.apu := rfl
@[simp] theorem State.setSp_mapper (s : State) (v : Byte) : (s.setSp v).mapper = s.mapper := rfl
@[simp] theorem State.setSp_windows (s : State) (v : Byte) : (s.setSp v).windows = s.windows := rfl
@[simp] theorem State.setSp_pad (s : State) (v : Byte) : (s.setSp v).pad = s.pad := rfl
@[simp] theorem State.setSp_cart (s : State) (v : Byte) : (s.setSp v).cart = s.cart := rfl
@[simp] theorem State.setSp_track (s : State) (v : Byte) : (s.setSp v).track = s.track := rfl
@[simp] theorem State.setSp_params (s : State) (v : Byte) : (s.setSp v).params = s.params := rfl
@[simp] theorem State.setSp_reachedPlay (s : State) (v : Byte) : (s.setSp v).reachedPlay = s.reachedPlay := rfl
@[simp] theorem State.setSp_buttons (s : State) (v : Byte) : (s.setSp v).buttons = s.buttons := rfl
@[simp] theorem State.setSp_hostQueue (s : State) (v : Byte) : (s.setSp v).hostQueue = s.hostQueue := rfl
@[simp] theorem State.setSp_drawCount (s : State) (v : Byte) : (s.setSp v).drawCount = s.drawCount := rfl
@[simp] theorem State.setSp_out (s : State) (v : Byte) : (s.setSp v).out = s.out := rfl
@[simp] theorem State.setSp_audio (s : State) (v : Byte) : (s.setSp v).audio = s.audio := rfl

/-! ## setPc -/

@[simp] theorem State.setPc_a (s : State) (v : Addr) : (s.setPc v).a = s.a := rfl
@[simp] theorem State.setPc_x (s : State) (v : Addr) : (s.setPc v).x = s.x := rfl
@[simp] theorem State.setPc_y (s : State) (v : Addr) : (s.setPc v).y = s.y := rfl
@[simp] theorem State.setPc_sp (s : State) (v : Addr) : (s.setPc v).sp = s.sp := rfl
@[simp] theorem State.setPc_pc (s : State) (v : Addr) : (s.setPc v).pc = v := rfl
@[simp] theorem State.setPc_p (s : State) (v : Addr) : (s.setPc v).p = s.p := rfl
@[simp] theorem State.setPc_cycles (s : State) (v : Addr) : (s.setPc v).cycles = s.cycles := rfl
@[simp] theorem State.setPc_run (s : State) (v : Addr) : (s.setPc v).run = s.run := rfl
@[simp] theorem State.setPc_nmiPending (s : State) (v : Addr) : (s.setPc v).nmiPending = s.nmiPending := rfl
@[simp] theorem State.setPc_ram (s : State) (v : Addr) : (s.setPc v).ram = s.ram := rfl
@[simp] theorem State.setPc_prgRam (s : State) (v : Addr) : (s.setPc v).prgRam = s.prgRam := rfl
@[simp] theorem State.setPc_ppu (s : State) (v : Addr) : (s.setPc v).ppu = s.ppu := rfl
@[simp] theorem State.setPc_apu (s : State) (v : Addr) : (s.setPc v).apu = s.apu := rfl
@[simp] theorem State.setPc_mapper (s : State) (v : Addr) : (s.setPc v).mapper = s.mapper := rfl
@[simp] theorem State.setPc_windows (s : State) (v : Addr) : (s.setPc v).windows = s.windows := rfl
@[simp] theorem State.setPc_pad (s : State) (v : Addr) : (s.setPc v).pad = s.pad := rfl
@[simp] theorem State.setPc_cart (s : State) (v : Addr) : (s.setPc v).cart = s.cart := rfl
@[simp] theorem State.setPc_track (s : State) (v : Addr) : (s.setPc v).track = s.track := rfl
@[simp] theorem State.setPc_params (s : State) (v : Addr) : (s.setPc v).params = s.params := rfl
@[simp] theorem State.setPc_reachedPlay (s : State) (v : Addr) : (s.setPc v).reachedPlay = s.reachedPlay := rfl
@[simp] theorem State.setPc_buttons (s : State) (v : Addr) : (s.setPc v).buttons = s.buttons := rfl
@[simp] theorem State.setPc_hostQueue (s : State) (v : Addr) : (s.setPc v).hostQueue = s.hostQueue := rfl
@[simp] theorem State.setPc_drawCount (s : State) (v : Addr) : (s.setPc v).drawCount = s.drawCount := rfl
@[simp] theorem State.setPc_out (s : State) (v : Addr) : (s.setPc v).out = s.out := rfl
@[simp] theorem State.setPc_audio (s : State) (v : Addr) : (s.setPc v).audio = s.audio := rfl

/-! ## setP -/

@[simp] theorem State.setP_a (s : State) (v : Byte) : (s.setP v).a = s.a := rfl
@[simp] theorem State.setP_x (s : State) (v : Byte) : (s.setP v).x = s.x := rfl
@[simp] theorem State.setP_y (s : State) (v : Byte) : (s.setP v).y = s.y := rfl
@[simp] theorem State.setP_sp (s : State) (v : Byte) : (s.setP v).sp = s.sp := rfl
@[simp] theorem State.setP_pc (s : State) (v : Byte) : (s.setP v).pc = s.pc := rfl
@[simp] theorem State.setP_p (s : State) (v : Byte) : (s.setP v).p = v := rfl
@[simp] theorem State.setP_cycles (s : State) (v : Byte) : (s.setP v).cycles = s.cycles := rfl
@[simp] theorem State.setP_run (s : State) (v : Byte) : (s.setP v).run = s.run := rfl
@[simp] theorem State.setP_nmiPending (s : State) (v : Byte) : (s.setP v).nmiPending = s.nmiPending := rfl
@[simp] theorem State.setP_ram (s : State) (v : Byte) : (s.setP v).ram = s.ram := rfl
@[simp] theorem State.setP_prgRam (s : State) (v : Byte) : (s.setP v).prgRam = s.prgRam := rfl
@[simp] theorem State.setP_ppu (s : State) (v : Byte) : (s.setP v).ppu = s.ppu := rfl
@[simp] theorem State.setP_apu (s : State) (v : Byte) : (s.setP v).apu = s.apu := rfl
@[simp] theorem State.setP_mapper (s : State) (v : Byte) : (s.setP v).mapper = s.mapper := rfl
@[simp] theorem State.setP_windows (s : State) (v : Byte) : (s.setP v).windows = s.windows := rfl
@[simp] theorem State.setP_pad (s : State) (v : Byte) : (s.setP v).pad = s.pad := rfl
@[simp] theorem State.setP_cart (s : State) (v : Byte) : (s.setP v).cart = s.cart := rfl
@[simp] theorem State.setP_track (s : State) (v : Byte) : (s.setP v).track = s.track := rfl
@[simp] theorem State.setP_params (s : State) (v : Byte) : (s.setP v).params = s.params := rfl
@[simp] theorem State.setP_reachedPlay (s : State) (v : Byte) : (s.setP v).reachedPlay = s.reachedPlay := rfl
@[simp] theorem State.setP_buttons (s : State) (v : Byte) : (s.setP v).buttons = s.buttons := rfl
@[simp] theorem State.setP_hostQueue (s : State) (v : Byte) : (s.setP v).hostQueue = s.hostQueue := rfl
@[simp] theorem State.setP_drawCount (s : State) (v : Byte) : (s.setP v).drawCount = s.drawCount := rfl
@[simp] theorem State.setP_out (s : State) (v : Byte) : (s.setP v).out = s.out := rfl
@[simp] theorem State.setP_audio (s : State) (v : Byte) : (s.setP v).audio = s.audio := rfl

/-! ## advance -/

@[simp] theorem State.advance_a (s : State) (n : Nat) : (s.advance n).a = s.a := rfl
@[simp] theorem State.advance_x (s : State) (n : Nat) : (s.advance n).x = s.x := rfl
@[simp] theorem State.advance_y (s : State) (n : Nat) : (s.advance n).y = s.y := rfl
@[simp] theorem State.advance_sp (s : State) (n : Nat) : (s.advance n).sp = s.sp := rfl
@[simp] theorem State.advance_pc (s : State) (n : Nat) : (s.advance n).pc = s.pc + BitVec.ofNat 16 n := rfl
@[simp] theorem State.advance_p (s : State) (n : Nat) : (s.advance n).p = s.p := rfl
@[simp] theorem State.advance_cycles (s : State) (n : Nat) : (s.advance n).cycles = s.cycles := rfl
@[simp] theorem State.advance_run (s : State) (n : Nat) : (s.advance n).run = s.run := rfl
@[simp] theorem State.advance_nmiPending (s : State) (n : Nat) : (s.advance n).nmiPending = s.nmiPending := rfl
@[simp] theorem State.advance_ram (s : State) (n : Nat) : (s.advance n).ram = s.ram := rfl
@[simp] theorem State.advance_prgRam (s : State) (n : Nat) : (s.advance n).prgRam = s.prgRam := rfl
@[simp] theorem State.advance_ppu (s : State) (n : Nat) : (s.advance n).ppu = s.ppu := rfl
@[simp] theorem State.advance_apu (s : State) (n : Nat) : (s.advance n).apu = s.apu := rfl
@[simp] theorem State.advance_mapper (s : State) (n : Nat) : (s.advance n).mapper = s.mapper := rfl
@[simp] theorem State.advance_windows (s : State) (n : Nat) : (s.advance n).windows = s.windows := rfl
@[simp] theorem State.advance_pad (s : State) (n : Nat) : (s.advance n).pad = s.pad := rfl
@[simp] theorem State.advance_cart (s : State) (n : Nat) : (s.advance n).cart = s.cart := rfl
@[simp] theorem State.advance_track (s : State) (n : Nat) : (s.advance n).track = s.track := rfl
@[simp] theorem State.advance_params (s : State) (n : Nat) : (s.advance n).params = s.params := rfl
@[simp] theorem State.advance_reachedPlay (s : State) (n : Nat) : (s.advance n).reachedPlay = s.reachedPlay := rfl
@[simp] theorem State.advance_buttons (s : State) (n : Nat) : (s.advance n).buttons = s.buttons := rfl
@[simp] theorem State.advance_hostQueue (s : State) (n : Nat) : (s.advance n).hostQueue = s.hostQueue := rfl
@[simp] theorem State.advance_drawCount (s : State) (n : Nat) : (s.advance n).drawCount = s.drawCount := rfl
@[simp] theorem State.advance_out (s : State) (n : Nat) : (s.advance n).out = s.out := rfl
@[simp] theorem State.advance_audio (s : State) (n : Nat) : (s.advance n).audio = s.audio := rfl

/-! ## setRam -/

@[simp] theorem State.setRam_a (s : State) (i : Nat) (v : Byte) : (s.setRam i v).a = s.a := rfl
@[simp] theorem State.setRam_x (s : State) (i : Nat) (v : Byte) : (s.setRam i v).x = s.x := rfl
@[simp] theorem State.setRam_y (s : State) (i : Nat) (v : Byte) : (s.setRam i v).y = s.y := rfl
@[simp] theorem State.setRam_sp (s : State) (i : Nat) (v : Byte) : (s.setRam i v).sp = s.sp := rfl
@[simp] theorem State.setRam_pc (s : State) (i : Nat) (v : Byte) : (s.setRam i v).pc = s.pc := rfl
@[simp] theorem State.setRam_p (s : State) (i : Nat) (v : Byte) : (s.setRam i v).p = s.p := rfl
@[simp] theorem State.setRam_cycles (s : State) (i : Nat) (v : Byte) : (s.setRam i v).cycles = s.cycles := rfl
@[simp] theorem State.setRam_run (s : State) (i : Nat) (v : Byte) : (s.setRam i v).run = s.run := rfl
@[simp] theorem State.setRam_nmiPending (s : State) (i : Nat) (v : Byte) : (s.setRam i v).nmiPending = s.nmiPending := rfl
@[simp] theorem State.setRam_ram (s : State) (i : Nat) (v : Byte) : (s.setRam i v).ram = s.ram.write i v := rfl
@[simp] theorem State.setRam_prgRam (s : State) (i : Nat) (v : Byte) : (s.setRam i v).prgRam = s.prgRam := rfl
@[simp] theorem State.setRam_ppu (s : State) (i : Nat) (v : Byte) : (s.setRam i v).ppu = s.ppu := rfl
@[simp] theorem State.setRam_apu (s : State) (i : Nat) (v : Byte) : (s.setRam i v).apu = s.apu := rfl
@[simp] theorem State.setRam_mapper (s : State) (i : Nat) (v : Byte) : (s.setRam i v).mapper = s.mapper := rfl
@[simp] theorem State.setRam_windows (s : State) (i : Nat) (v : Byte) : (s.setRam i v).windows = s.windows := rfl
@[simp] theorem State.setRam_pad (s : State) (i : Nat) (v : Byte) : (s.setRam i v).pad = s.pad := rfl
@[simp] theorem State.setRam_cart (s : State) (i : Nat) (v : Byte) : (s.setRam i v).cart = s.cart := rfl
@[simp] theorem State.setRam_track (s : State) (i : Nat) (v : Byte) : (s.setRam i v).track = s.track := rfl
@[simp] theorem State.setRam_params (s : State) (i : Nat) (v : Byte) : (s.setRam i v).params = s.params := rfl
@[simp] theorem State.setRam_reachedPlay (s : State) (i : Nat) (v : Byte) : (s.setRam i v).reachedPlay = s.reachedPlay := rfl
@[simp] theorem State.setRam_buttons (s : State) (i : Nat) (v : Byte) : (s.setRam i v).buttons = s.buttons := rfl
@[simp] theorem State.setRam_hostQueue (s : State) (i : Nat) (v : Byte) : (s.setRam i v).hostQueue = s.hostQueue := rfl
@[simp] theorem State.setRam_drawCount (s : State) (i : Nat) (v : Byte) : (s.setRam i v).drawCount = s.drawCount := rfl
@[simp] theorem State.setRam_out (s : State) (i : Nat) (v : Byte) : (s.setRam i v).out = s.out := rfl
@[simp] theorem State.setRam_audio (s : State) (i : Nat) (v : Byte) : (s.setRam i v).audio = s.audio := rfl

/-! ## setPrgRam -/

@[simp] theorem State.setPrgRam_a (s : State) (i : Nat) (v : Byte) : (s.setPrgRam i v).a = s.a := rfl
@[simp] theorem State.setPrgRam_x (s : State) (i : Nat) (v : Byte) : (s.setPrgRam i v).x = s.x := rfl
@[simp] theorem State.setPrgRam_y (s : State) (i : Nat) (v : Byte) : (s.setPrgRam i v).y = s.y := rfl
@[simp] theorem State.setPrgRam_sp (s : State) (i : Nat) (v : Byte) : (s.setPrgRam i v).sp = s.sp := rfl
@[simp] theorem State.setPrgRam_pc (s : State) (i : Nat) (v : Byte) : (s.setPrgRam i v).pc = s.pc := rfl
@[simp] theorem State.setPrgRam_p (s : State) (i : Nat) (v : Byte) : (s.setPrgRam i v).p = s.p := rfl
@[simp] theorem State.setPrgRam_cycles (s : State) (i : Nat) (v : Byte) : (s.setPrgRam i v).cycles = s.cycles := rfl
@[simp] theorem State.setPrgRam_run (s : State) (i : Nat) (v : Byte) : (s.setPrgRam i v).run = s.run := rfl
@[simp] theorem State.setPrgRam_nmiPending (s : State) (i : Nat) (v : Byte) : (s.setPrgRam i v).nmiPending = s.nmiPending := rfl
@[simp] theorem State.setPrgRam_ram (s : State) (i : Nat) (v : Byte) : (s.setPrgRam i v).ram = s.ram := rfl
@[simp] theorem State.setPrgRam_prgRam (s : State) (i : Nat) (v : Byte) : (s.setPrgRam i v).prgRam = s.prgRam.map fun m => m.write i v := rfl
@[simp] theorem State.setPrgRam_ppu (s : State) (i : Nat) (v : Byte) : (s.setPrgRam i v).ppu = s.ppu := rfl
@[simp] theorem State.setPrgRam_apu (s : State) (i : Nat) (v : Byte) : (s.setPrgRam i v).apu = s.apu := rfl
@[simp] theorem State.setPrgRam_mapper (s : State) (i : Nat) (v : Byte) : (s.setPrgRam i v).mapper = s.mapper := rfl
@[simp] theorem State.setPrgRam_windows (s : State) (i : Nat) (v : Byte) : (s.setPrgRam i v).windows = s.windows := rfl
@[simp] theorem State.setPrgRam_pad (s : State) (i : Nat) (v : Byte) : (s.setPrgRam i v).pad = s.pad := rfl
@[simp] theorem State.setPrgRam_cart (s : State) (i : Nat) (v : Byte) : (s.setPrgRam i v).cart = s.cart := rfl
@[simp] theorem State.setPrgRam_track (s : State) (i : Nat) (v : Byte) : (s.setPrgRam i v).track = s.track := rfl
@[simp] theorem State.setPrgRam_params (s : State) (i : Nat) (v : Byte) : (s.setPrgRam i v).params = s.params := rfl
@[simp] theorem State.setPrgRam_reachedPlay (s : State) (i : Nat) (v : Byte) : (s.setPrgRam i v).reachedPlay = s.reachedPlay := rfl
@[simp] theorem State.setPrgRam_buttons (s : State) (i : Nat) (v : Byte) : (s.setPrgRam i v).buttons = s.buttons := rfl
@[simp] theorem State.setPrgRam_hostQueue (s : State) (i : Nat) (v : Byte) : (s.setPrgRam i v).hostQueue = s.hostQueue := rfl
@[simp] theorem State.setPrgRam_drawCount (s : State) (i : Nat) (v : Byte) : (s.setPrgRam i v).drawCount = s.drawCount := rfl
@[simp] theorem State.setPrgRam_out (s : State) (i : Nat) (v : Byte) : (s.setPrgRam i v).out = s.out := rfl
@[simp] theorem State.setPrgRam_audio (s : State) (i : Nat) (v : Byte) : (s.setPrgRam i v).audio = s.audio := rfl

/-! ## setPpu -/

@[simp] theorem State.setPpu_a (s : State) (v : PpuState) : (s.setPpu v).a = s.a := rfl
@[simp] theorem State.setPpu_x (s : State) (v : PpuState) : (s.setPpu v).x = s.x := rfl
@[simp] theorem State.setPpu_y (s : State) (v : PpuState) : (s.setPpu v).y = s.y := rfl
@[simp] theorem State.setPpu_sp (s : State) (v : PpuState) : (s.setPpu v).sp = s.sp := rfl
@[simp] theorem State.setPpu_pc (s : State) (v : PpuState) : (s.setPpu v).pc = s.pc := rfl
@[simp] theorem State.setPpu_p (s : State) (v : PpuState) : (s.setPpu v).p = s.p := rfl
@[simp] theorem State.setPpu_cycles (s : State) (v : PpuState) : (s.setPpu v).cycles = s.cycles := rfl
@[simp] theorem State.setPpu_run (s : State) (v : PpuState) : (s.setPpu v).run = s.run := rfl
@[simp] theorem State.setPpu_nmiPending (s : State) (v : PpuState) : (s.setPpu v).nmiPending = s.nmiPending := rfl
@[simp] theorem State.setPpu_ram (s : State) (v : PpuState) : (s.setPpu v).ram = s.ram := rfl
@[simp] theorem State.setPpu_prgRam (s : State) (v : PpuState) : (s.setPpu v).prgRam = s.prgRam := rfl
@[simp] theorem State.setPpu_ppu (s : State) (v : PpuState) : (s.setPpu v).ppu = v := rfl
@[simp] theorem State.setPpu_apu (s : State) (v : PpuState) : (s.setPpu v).apu = s.apu := rfl
@[simp] theorem State.setPpu_mapper (s : State) (v : PpuState) : (s.setPpu v).mapper = s.mapper := rfl
@[simp] theorem State.setPpu_windows (s : State) (v : PpuState) : (s.setPpu v).windows = s.windows := rfl
@[simp] theorem State.setPpu_pad (s : State) (v : PpuState) : (s.setPpu v).pad = s.pad := rfl
@[simp] theorem State.setPpu_cart (s : State) (v : PpuState) : (s.setPpu v).cart = s.cart := rfl
@[simp] theorem State.setPpu_track (s : State) (v : PpuState) : (s.setPpu v).track = s.track := rfl
@[simp] theorem State.setPpu_params (s : State) (v : PpuState) : (s.setPpu v).params = s.params := rfl
@[simp] theorem State.setPpu_reachedPlay (s : State) (v : PpuState) : (s.setPpu v).reachedPlay = s.reachedPlay := rfl
@[simp] theorem State.setPpu_buttons (s : State) (v : PpuState) : (s.setPpu v).buttons = s.buttons := rfl
@[simp] theorem State.setPpu_hostQueue (s : State) (v : PpuState) : (s.setPpu v).hostQueue = s.hostQueue := rfl
@[simp] theorem State.setPpu_drawCount (s : State) (v : PpuState) : (s.setPpu v).drawCount = s.drawCount := rfl
@[simp] theorem State.setPpu_out (s : State) (v : PpuState) : (s.setPpu v).out = s.out := rfl
@[simp] theorem State.setPpu_audio (s : State) (v : PpuState) : (s.setPpu v).audio = s.audio := rfl

/-! ## setApu -/

@[simp] theorem State.setApu_a (s : State) (v : ApuState) : (s.setApu v).a = s.a := rfl
@[simp] theorem State.setApu_x (s : State) (v : ApuState) : (s.setApu v).x = s.x := rfl
@[simp] theorem State.setApu_y (s : State) (v : ApuState) : (s.setApu v).y = s.y := rfl
@[simp] theorem State.setApu_sp (s : State) (v : ApuState) : (s.setApu v).sp = s.sp := rfl
@[simp] theorem State.setApu_pc (s : State) (v : ApuState) : (s.setApu v).pc = s.pc := rfl
@[simp] theorem State.setApu_p (s : State) (v : ApuState) : (s.setApu v).p = s.p := rfl
@[simp] theorem State.setApu_cycles (s : State) (v : ApuState) : (s.setApu v).cycles = s.cycles := rfl
@[simp] theorem State.setApu_run (s : State) (v : ApuState) : (s.setApu v).run = s.run := rfl
@[simp] theorem State.setApu_nmiPending (s : State) (v : ApuState) : (s.setApu v).nmiPending = s.nmiPending := rfl
@[simp] theorem State.setApu_ram (s : State) (v : ApuState) : (s.setApu v).ram = s.ram := rfl
@[simp] theorem State.setApu_prgRam (s : State) (v : ApuState) : (s.setApu v).prgRam = s.prgRam := rfl
@[simp] theorem State.setApu_ppu (s : State) (v : ApuState) : (s.setApu v).ppu = s.ppu := rfl
@[simp] theorem State.setApu_apu (s : State) (v : ApuState) : (s.setApu v).apu = v := rfl
@[simp] theorem State.setApu_mapper (s : State) (v : ApuState) : (s.setApu v).mapper = s.mapper := rfl
@[simp] theorem State.setApu_windows (s : State) (v : ApuState) : (s.setApu v).windows = s.windows := rfl
@[simp] theorem State.setApu_pad (s : State) (v : ApuState) : (s.setApu v).pad = s.pad := rfl
@[simp] theorem State.setApu_cart (s : State) (v : ApuState) : (s.setApu v).cart = s.cart := rfl
@[simp] theorem State.setApu_track (s : State) (v : ApuState) : (s.setApu v).track = s.track := rfl
@[simp] theorem State.setApu_params (s : State) (v : ApuState) : (s.setApu v).params = s.params := rfl
@[simp] theorem State.setApu_reachedPlay (s : State) (v : ApuState) : (s.setApu v).reachedPlay = s.reachedPlay := rfl
@[simp] theorem State.setApu_buttons (s : State) (v : ApuState) : (s.setApu v).buttons = s.buttons := rfl
@[simp] theorem State.setApu_hostQueue (s : State) (v : ApuState) : (s.setApu v).hostQueue = s.hostQueue := rfl
@[simp] theorem State.setApu_drawCount (s : State) (v : ApuState) : (s.setApu v).drawCount = s.drawCount := rfl
@[simp] theorem State.setApu_out (s : State) (v : ApuState) : (s.setApu v).out = s.out := rfl
@[simp] theorem State.setApu_audio (s : State) (v : ApuState) : (s.setApu v).audio = s.audio := rfl

/-! ## setMapper -/

@[simp] theorem State.setMapper_a (s : State) (m : MapperState) (w : Windows) : (s.setMapper m w).a = s.a := rfl
@[simp] theorem State.setMapper_x (s : State) (m : MapperState) (w : Windows) : (s.setMapper m w).x = s.x := rfl
@[simp] theorem State.setMapper_y (s : State) (m : MapperState) (w : Windows) : (s.setMapper m w).y = s.y := rfl
@[simp] theorem State.setMapper_sp (s : State) (m : MapperState) (w : Windows) : (s.setMapper m w).sp = s.sp := rfl
@[simp] theorem State.setMapper_pc (s : State) (m : MapperState) (w : Windows) : (s.setMapper m w).pc = s.pc := rfl
@[simp] theorem State.setMapper_p (s : State) (m : MapperState) (w : Windows) : (s.setMapper m w).p = s.p := rfl
@[simp] theorem State.setMapper_cycles (s : State) (m : MapperState) (w : Windows) : (s.setMapper m w).cycles = s.cycles := rfl
@[simp] theorem State.setMapper_run (s : State) (m : MapperState) (w : Windows) : (s.setMapper m w).run = s.run := rfl
@[simp] theorem State.setMapper_nmiPending (s : State) (m : MapperState) (w : Windows) : (s.setMapper m w).nmiPending = s.nmiPending := rfl
@[simp] theorem State.setMapper_ram (s : State) (m : MapperState) (w : Windows) : (s.setMapper m w).ram = s.ram := rfl
@[simp] theorem State.setMapper_prgRam (s : State) (m : MapperState) (w : Windows) : (s.setMapper m w).prgRam = s.prgRam := rfl
@[simp] theorem State.setMapper_ppu (s : State) (m : MapperState) (w : Windows) : (s.setMapper m w).ppu = s.ppu := rfl
@[simp] theorem State.setMapper_apu (s : State) (m : MapperState) (w : Windows) : (s.setMapper m w).apu = s.apu := rfl
@[simp] theorem State.setMapper_mapper (s : State) (m : MapperState) (w : Windows) : (s.setMapper m w).mapper = m := rfl
@[simp] theorem State.setMapper_windows (s : State) (m : MapperState) (w : Windows) : (s.setMapper m w).windows = w := rfl
@[simp] theorem State.setMapper_pad (s : State) (m : MapperState) (w : Windows) : (s.setMapper m w).pad = s.pad := rfl
@[simp] theorem State.setMapper_cart (s : State) (m : MapperState) (w : Windows) : (s.setMapper m w).cart = s.cart := rfl
@[simp] theorem State.setMapper_track (s : State) (m : MapperState) (w : Windows) : (s.setMapper m w).track = s.track := rfl
@[simp] theorem State.setMapper_params (s : State) (m : MapperState) (w : Windows) : (s.setMapper m w).params = s.params := rfl
@[simp] theorem State.setMapper_reachedPlay (s : State) (m : MapperState) (w : Windows) : (s.setMapper m w).reachedPlay = s.reachedPlay := rfl
@[simp] theorem State.setMapper_buttons (s : State) (m : MapperState) (w : Windows) : (s.setMapper m w).buttons = s.buttons := rfl
@[simp] theorem State.setMapper_hostQueue (s : State) (m : MapperState) (w : Windows) : (s.setMapper m w).hostQueue = s.hostQueue := rfl
@[simp] theorem State.setMapper_drawCount (s : State) (m : MapperState) (w : Windows) : (s.setMapper m w).drawCount = s.drawCount := rfl
@[simp] theorem State.setMapper_out (s : State) (m : MapperState) (w : Windows) : (s.setMapper m w).out = s.out := rfl
@[simp] theorem State.setMapper_audio (s : State) (m : MapperState) (w : Windows) : (s.setMapper m w).audio = s.audio := rfl

/-! ## setPad -/

@[simp] theorem State.setPad_a (s : State) (v : PadState) : (s.setPad v).a = s.a := rfl
@[simp] theorem State.setPad_x (s : State) (v : PadState) : (s.setPad v).x = s.x := rfl
@[simp] theorem State.setPad_y (s : State) (v : PadState) : (s.setPad v).y = s.y := rfl
@[simp] theorem State.setPad_sp (s : State) (v : PadState) : (s.setPad v).sp = s.sp := rfl
@[simp] theorem State.setPad_pc (s : State) (v : PadState) : (s.setPad v).pc = s.pc := rfl
@[simp] theorem State.setPad_p (s : State) (v : PadState) : (s.setPad v).p = s.p := rfl
@[simp] theorem State.setPad_cycles (s : State) (v : PadState) : (s.setPad v).cycles = s.cycles := rfl
@[simp] theorem State.setPad_run (s : State) (v : PadState) : (s.setPad v).run = s.run := rfl
@[simp] theorem State.setPad_nmiPending (s : State) (v : PadState) : (s.setPad v).nmiPending = s.nmiPending := rfl
@[simp] theorem State.setPad_ram (s : State) (v : PadState) : (s.setPad v).ram = s.ram := rfl
@[simp] theorem State.setPad_prgRam (s : State) (v : PadState) : (s.setPad v).prgRam = s.prgRam := rfl
@[simp] theorem State.setPad_ppu (s : State) (v : PadState) : (s.setPad v).ppu = s.ppu := rfl
@[simp] theorem State.setPad_apu (s : State) (v : PadState) : (s.setPad v).apu = s.apu := rfl
@[simp] theorem State.setPad_mapper (s : State) (v : PadState) : (s.setPad v).mapper = s.mapper := rfl
@[simp] theorem State.setPad_windows (s : State) (v : PadState) : (s.setPad v).windows = s.windows := rfl
@[simp] theorem State.setPad_pad (s : State) (v : PadState) : (s.setPad v).pad = v := rfl
@[simp] theorem State.setPad_cart (s : State) (v : PadState) : (s.setPad v).cart = s.cart := rfl
@[simp] theorem State.setPad_track (s : State) (v : PadState) : (s.setPad v).track = s.track := rfl
@[simp] theorem State.setPad_params (s : State) (v : PadState) : (s.setPad v).params = s.params := rfl
@[simp] theorem State.setPad_reachedPlay (s : State) (v : PadState) : (s.setPad v).reachedPlay = s.reachedPlay := rfl
@[simp] theorem State.setPad_buttons (s : State) (v : PadState) : (s.setPad v).buttons = s.buttons := rfl
@[simp] theorem State.setPad_hostQueue (s : State) (v : PadState) : (s.setPad v).hostQueue = s.hostQueue := rfl
@[simp] theorem State.setPad_drawCount (s : State) (v : PadState) : (s.setPad v).drawCount = s.drawCount := rfl
@[simp] theorem State.setPad_out (s : State) (v : PadState) : (s.setPad v).out = s.out := rfl
@[simp] theorem State.setPad_audio (s : State) (v : PadState) : (s.setPad v).audio = s.audio := rfl

/-! ## countDraw -/

@[simp] theorem State.countDraw_a (s : State) : (s.countDraw).a = s.a := rfl
@[simp] theorem State.countDraw_x (s : State) : (s.countDraw).x = s.x := rfl
@[simp] theorem State.countDraw_y (s : State) : (s.countDraw).y = s.y := rfl
@[simp] theorem State.countDraw_sp (s : State) : (s.countDraw).sp = s.sp := rfl
@[simp] theorem State.countDraw_pc (s : State) : (s.countDraw).pc = s.pc := rfl
@[simp] theorem State.countDraw_p (s : State) : (s.countDraw).p = s.p := rfl
@[simp] theorem State.countDraw_cycles (s : State) : (s.countDraw).cycles = s.cycles := rfl
@[simp] theorem State.countDraw_run (s : State) : (s.countDraw).run = s.run := rfl
@[simp] theorem State.countDraw_nmiPending (s : State) : (s.countDraw).nmiPending = s.nmiPending := rfl
@[simp] theorem State.countDraw_ram (s : State) : (s.countDraw).ram = s.ram := rfl
@[simp] theorem State.countDraw_prgRam (s : State) : (s.countDraw).prgRam = s.prgRam := rfl
@[simp] theorem State.countDraw_ppu (s : State) : (s.countDraw).ppu = s.ppu := rfl
@[simp] theorem State.countDraw_apu (s : State) : (s.countDraw).apu = s.apu := rfl
@[simp] theorem State.countDraw_mapper (s : State) : (s.countDraw).mapper = s.mapper := rfl
@[simp] theorem State.countDraw_windows (s : State) : (s.countDraw).windows = s.windows := rfl
@[simp] theorem State.countDraw_pad (s : State) : (s.countDraw).pad = s.pad := rfl
@[simp] theorem State.countDraw_cart (s : State) : (s.countDraw).cart = s.cart := rfl
@[simp] theorem State.countDraw_track (s : State) : (s.countDraw).track = s.track := rfl
@[simp] theorem State.countDraw_params (s : State) : (s.countDraw).params = s.params := rfl
@[simp] theorem State.countDraw_reachedPlay (s : State) : (s.countDraw).reachedPlay = s.reachedPlay := rfl
@[simp] theorem State.countDraw_buttons (s : State) : (s.countDraw).buttons = s.buttons := rfl
@[simp] theorem State.countDraw_hostQueue (s : State) : (s.countDraw).hostQueue = s.hostQueue := rfl
@[simp] theorem State.countDraw_drawCount (s : State) : (s.countDraw).drawCount = s.drawCount + 1 := rfl
@[simp] theorem State.countDraw_out (s : State) : (s.countDraw).out = s.out := rfl
@[simp] theorem State.countDraw_audio (s : State) : (s.countDraw).audio = s.audio := rfl

end Sys2Proof.Machine
end

