-- ==== Sys2Proof/Laws/Ops.lean ====
section
/-!
SUPPORT. What the shared operations can do, said once: reading and writing memory, the mappers, the stack, taking an
interrupt and returning from one. Later proofs cite these and do not unfold the operations.
-/

namespace Sys2Proof.Machine

/-! ## Outcomes -/

@[simp] theorem andThen_next {α β : Type} (r : α) (f : α → Out β) : andThen (.next r) f = f r := rfl
@[simp] theorem andThen_fault {α β : Type} (e : Fault) (f : α → Out β) : andThen (.fault e) f = .fault e := rfl
@[simp] theorem andThen_refused {α β : Type} (e : Refusal) (f : α → Out β) : andThen (.refused e) f = .refused e := rfl

/-- A composition completes where both parts do. -/
theorem andThen_eq_next {α β : Type} {o : Out α} {f : α → Out β} {t : β} :
    andThen o f = .next t ↔ ∃ r, o = .next r ∧ f r = .next t := by
  cases o <;> simp [andThen]

/-! ## The decoder -/

theorem regionOf_ram {s : State} {a : Addr} (h : a.toNat < 0x2000) : regionOf s a = .ram (a.toNat % 0x800) := by
  simp only [regionOf]
  rw [if_pos h]

theorem regionOf_cart {s : State} {a : Addr} (h : 0x8000 ≤ a.toNat) : regionOf s a = .cart := by
  simp only [regionOf]
  repeat rw [if_neg (by omega)]

/-- The decoder depends on the mode and on the presence of PRG-RAM only. -/
theorem regionOf_congr {s t : State} (hn : t.isNsf = s.isNsf) (hp : t.prgRam.isSome = s.prgRam.isSome) (a : Addr) :
    regionOf t a = regionOf s a := by
  simp only [regionOf, hn, hp]

/-- The addresses and the modes of a region (R62, R79). -/
def RegionAt (s : State) (n : Nat) : Region → Prop
  | .ram i => n < 0x2000 ∧ i = n % 0x800
  | .ppu r => 0x2000 ≤ n ∧ n < 0x4000 ∧ s.isNsf = false ∧ r = n % 8
  | .apuChannel r => 0x4000 ≤ n ∧ n < 0x4014 ∧ r = n - 0x4000
  | .oamDma => n = 0x4014 ∧ s.isNsf = false
  | .apuStatus => n = 0x4015
  | .pad1 => n = 0x4016
  | .pad2 => n = 0x4017
  | .boot i => 0x5000 ≤ n ∧ n < 0x5100 ∧ s.isNsf = true ∧ i = n - 0x5000
  | .nsfBank i => 0x5FF8 ≤ n ∧ n < 0x6000 ∧ s.isNsf = true ∧ i = n - 0x5FF8
  | .prgRam i => 0x6000 ≤ n ∧ n < 0x8000 ∧ s.prgRam.isSome = true ∧ i = n - 0x6000
  | .cart => 0x8000 ≤ n
  | .unmapped => 0x2000 ≤ n ∧ n < 0x8000

/-- Every address has the region the decoder gives it. -/
theorem regionOf_at (s : State) (a : Addr) : RegionAt s a.toNat (regionOf s a) := by
  unfold regionOf
  generalize a.toNat = n
  dsimp only
  by_cases h0 : n < 0x2000
  · rw [if_pos h0]; exact ⟨h0, rfl⟩
  rw [if_neg h0]
  by_cases h1 : n < 0x4000
  · rw [if_pos h1]
    cases hn : s.isNsf
    · exact ⟨by omega, h1, hn, rfl⟩
    · exact ⟨by omega, by omega⟩
  rw [if_neg h1]
  by_cases h2 : n < 0x4014
  · rw [if_pos h2]; exact ⟨by omega, h2, rfl⟩
  rw [if_neg h2]
  by_cases h3 : n < 0x4015
  · rw [if_pos h3]
    cases hn : s.isNsf
    · exact ⟨by omega, hn⟩
    · exact ⟨by omega, by omega⟩
  rw [if_neg h3]
  by_cases h4 : n < 0x4016
  · rw [if_pos h4]; exact (by omega : n = 0x4015)
  rw [if_neg h4]
  by_cases h5 : n < 0x4017
  · rw [if_pos h5]; exact (by omega : n = 0x4016)
  rw [if_neg h5]
  by_cases h6 : n < 0x4018
  · rw [if_pos h6]; exact (by omega : n = 0x4017)
  rw [if_neg h6]
  by_cases h7 : n < 0x5000
  · rw [if_pos h7]; exact ⟨by omega, by omega⟩
  rw [if_neg h7]
  by_cases h8 : n < 0x5100
  · rw [if_pos h8]
    cases hn : s.isNsf
    · exact ⟨by omega, by omega⟩
    · exact ⟨by omega, h8, hn, rfl⟩
  rw [if_neg h8]
  by_cases h9 : n < 0x5FF8
  · rw [if_pos h9]; exact ⟨by omega, by omega⟩
  rw [if_neg h9]
  by_cases h10 : n < 0x6000
  · rw [if_pos h10]
    cases hn : s.isNsf
    · exact ⟨by omega, by omega⟩
    · exact ⟨by omega, h10, hn, rfl⟩
  rw [if_neg h10]
  by_cases h11 : n < 0x8000
  · rw [if_pos h11]
    cases hp : s.prgRam.isSome
    · exact ⟨by omega, h11⟩
    · exact ⟨by omega, h11, hp, rfl⟩
  rw [if_neg h11]
  exact (by omega : 0x8000 ≤ n)

/-- A RAM region's index lies in RAM. -/
theorem regionOf_ram_lt {s : State} {a : Addr} {i : Nat} (h : regionOf s a = .ram i) : i < 2048 := by
  have := regionOf_at s a
  rw [h] at this
  have := this.2
  omega

/-- A PRG-RAM region's index lies in PRG-RAM, which is present. -/
theorem regionOf_prgRam_lt {s : State} {a : Addr} {i : Nat} (h : regionOf s a = .prgRam i) :
    i < 8192 ∧ s.prgRam.isSome = true := by
  have := regionOf_at s a
  rw [h] at this
  obtain ⟨h1, h2, h3, h4⟩ := this
  exact ⟨by omega, h3⟩

/-- A PPU region's register is one of eight, and there is a PPU. -/
theorem regionOf_ppu_lt {s : State} {a : Addr} {r : Nat} (h : regionOf s a = .ppu r) :
    r < 8 ∧ s.isNsf = false := by
  have := regionOf_at s a
  rw [h] at this
  obtain ⟨h1, h2, h3, h4⟩ := this
  exact ⟨by omega, h3⟩

/-! ## Reading -/

/-- Everything a read that completes can do: nothing, but for PPUSTATUS and the controller ports (R63). -/
theorem memRead_effect {a : Addr} {s t : State} {b : Byte} (h : memRead a s = .next (b, t)) :
    t = s ∨ (regionOf s a = .ppu 2 ∧ t = s.setPpu (clearVblank s.ppu)) ∨
    (regionOf s a = .pad1 ∧ t = (s.setPad (padAfterRead s.pad)).countDraw) ∨
    (regionOf s a = .pad2 ∧ t = s.countDraw) := by
  unfold memRead at h
  split at h
  case h_2 r hr =>
    unfold ppuRead at h
    split at h
    · subst_vars; cases h; exact .inr (.inl ⟨hr, rfl⟩)
    · cases h
  case h_6 hr => cases h; exact .inr (.inr (.inl ⟨hr, rfl⟩))
  case h_7 hr => cases h; exact .inr (.inr (.inr ⟨hr, rfl⟩))
  case h_11 hr =>
    unfold cartRead at h
    split at h <;> cases h
    exact .inl rfl
  all_goals first | (cases h; exact .inl rfl) | cases h

/-- A read completes exactly where the address is readable. -/
theorem memRead_of_readable {a : Addr} {s : State} (h : readable s a = true) :
    ∃ b t, memRead a s = .next (b, t) := by
  unfold readable at h
  unfold memRead
  split at h <;> rename_i hr <;> rw [hr] <;> try exact ⟨_, _, rfl⟩
  · simp only [ppuRead]
    rw [if_pos (by simpa using h)]
    exact ⟨_, _, rfl⟩
  · simp only [cartRead]
    obtain ⟨b, hb⟩ := Option.isSome_iff_exists.1 h
    rw [hb]
    exact ⟨_, _, rfl⟩
  all_goals exact absurd h (by simp)

/-- The registers, the memories and everything around the devices after a read. -/
theorem memRead_keeps {a : Addr} {s t : State} {b : Byte} (h : memRead a s = .next (b, t)) :
    t.a = s.a ∧ t.x = s.x ∧ t.y = s.y ∧ t.sp = s.sp ∧ t.pc = s.pc ∧ t.p = s.p ∧ t.ram = s.ram ∧
    t.prgRam = s.prgRam ∧ t.apu = s.apu ∧ t.mapper = s.mapper ∧ t.windows = s.windows ∧ t.cart = s.cart ∧
    t.track = s.track ∧ t.params = s.params := by
  rcases memRead_effect h with rfl | ⟨-, rfl⟩ | ⟨-, rfl⟩ | ⟨-, rfl⟩ <;> simp

/-! ## The mappers -/

theorem mapPrgLo_eq {size o : Nat} {w : Windows} (h : o + 16384 ≤ size) :
    mapPrgLo size o w = .next { w with prgLo := o } := by
  simp only [mapPrgLo]; exact if_neg (by simp only [prgWindow]; omega)

theorem mapPrgHi_eq {size o : Nat} {w : Windows} (h : o + 16384 ≤ size) :
    mapPrgHi size o w = .next { w with prgHi := o } := by
  simp only [mapPrgHi]; exact if_neg (by simp only [prgWindow]; omega)

theorem mapPrgBoth_eq {size o : Nat} {w : Windows} (h : o + 32768 ≤ size) :
    mapPrgBoth size o w = .next { w with prgLo := o, prgHi := o + 16384 } := by
  simp only [mapPrgBoth]; exact if_neg (by simp only [prgWindow]; omega)

theorem mapChr0_eq {size o : Nat} {w : Windows} (h : o + 4096 ≤ size) :
    mapChr0 size o w = .next { w with chr0 := o } := by
  simp only [mapChr0]; exact if_neg (by simp only [chrWindow]; omega)

theorem mapChr1_eq {size o : Nat} {w : Windows} (h : o + 4096 ≤ size) :
    mapChr1 size o w = .next { w with chr1 := o } := by
  simp only [mapChr1]; exact if_neg (by simp only [chrWindow]; omega)

/-- The even CHR bank number. -/
theorem evenBank (b : BitVec 5) : (b &&& 0x1E).toNat = b.toNat / 2 * 2 := by
  revert b; decide

/-- `Remap()` completes where the windows fit. -/
theorem mmc1Remap_of_fits {f : NesFile} {r : Mmc1} {w : Windows} (h : mmc1Fits f r = true) :
    ∃ w', mmc1Remap f r w = .next w' := by
  simp only [mmc1Fits, Bool.and_eq_true, Bool.or_eq_true, beq_iff_eq] at h
  have hp : ∃ w1, mmc1RemapPrg f.prg.size r w = .next w1 := by
    have h1 := h.1
    have hm : mmc1PrgMode r < 4 := (r.control.extractLsb' 2 2).isLt
    simp only [mmc1RemapPrg]
    split at h1
    · have : mmc1PrgMode r = 0 ∨ mmc1PrgMode r = 1 := by omega
      rcases this with e | e <;> rw [e] <;> simp only [decide_eq_true_eq] at h1 <;>
        exact ⟨_, mapPrgBoth_eq (by simp only [prgWindow]; omega)⟩
    · have : mmc1PrgMode r = 2 ∨ mmc1PrgMode r = 3 := by omega
      simp only [Bool.and_eq_true, decide_eq_true_eq] at h1
      rcases this with e | e <;> rw [e]
      · simp only [mapPrgLo_eq (w := w) (size := f.prg.size) (o := 0) (by omega), andThen_next]
        exact ⟨_, mapPrgHi_eq (by simp only [prgWindow]; omega)⟩
      · exact ⟨_, andThen_eq_next.2 ⟨_, mapPrgLo_eq (by simp only [prgWindow]; omega),
          mapPrgHi_eq (by simp only [prgWindow]; omega)⟩⟩
  obtain ⟨w1, hw1⟩ := hp
  simp only [mmc1Remap, hw1, andThen_next, mmc1RemapChr]
  split
  · exact ⟨_, rfl⟩
  · have h2 := h.2.resolve_left ‹_›
    split at h2
    · rw [if_neg (by simp [*])]
      simp only [Bool.and_eq_true, decide_eq_true_eq] at h2
      rw [mapChr0_eq (by simp only [chrWindow]; omega), andThen_next]
      exact ⟨_, mapChr1_eq (by simp only [chrWindow]; omega)⟩
    · rw [if_pos (by rw [← Bool.not_eq_true]; assumption)]
      simp only [decide_eq_true_eq] at h2
      rw [mapChr0_eq (by rw [evenBank]; simp only [chrWindow]; omega), andThen_next]
      exact ⟨_, mapChr1_eq (by rw [evenBank]; simp only [chrWindow]; omega)⟩

/-- `Remap()` looks at the control and bank registers only. -/
theorem mmc1Remap_congr {f : NesFile} {r r' : Mmc1} {w : Windows} (hc : r'.control = r.control)
    (h0 : r'.chrBank0 = r.chrBank0) (h1 : r'.chrBank1 = r.chrBank1) (hp : r'.prgBank = r.prgBank) :
    mmc1Remap f r' w = mmc1Remap f r w := by
  simp only [mmc1Remap, mmc1RemapPrg, mmc1RemapChr, mmc1PrgMode, mmc1Bank, hc, h0, h1, hp]

/-- A mapper write completes where the mapper accepts it. -/
theorem mapperWrite_of_accepts {f : NesFile} {m : MapperState} {w : Windows} {a : Addr} {v : Byte}
    (h : mapperAccepts f m a v = true) : ∃ mw, mapperWrite f a v m w = .next mw := by
  cases m with
  | nrom => exact absurd h (by simp [mapperAccepts])
  | nsf _ _ => exact absurd h (by simp [mapperAccepts])
  | uxrom b =>
    simp only [mapperAccepts, decide_eq_true_eq] at h
    simp only [mapperWrite, mapPrgLo_eq (w := w) (size := f.prg.size) (o := v.toNat * prgWindow)
      (by simp only [prgWindow]; omega), andThen_next]
    exact ⟨_, rfl⟩
  | mmc1 r =>
    have : ∃ rw, mmc1Write f a v r w = .next rw := by
      simp only [mapperAccepts, Bool.or_eq_true, bne_iff_ne] at h
      simp only [mmc1Write]
      split
      · exact ⟨_, rfl⟩
      · split
        · have hf := (h.resolve_left (by simp_all))
          obtain ⟨w', hw'⟩ := mmc1Remap_of_fits (w := w) hf
          refine ⟨_, andThen_eq_next.2 ⟨w', ?_, rfl⟩⟩
          exact (mmc1Remap_congr (r := mmc1Commit a (mmc1ShiftIn v r.shift) r) rfl rfl rfl rfl).trans hw'
        · exact ⟨_, rfl⟩
    obtain ⟨rw', hr⟩ := this
    exact ⟨_, andThen_eq_next.2 ⟨rw', hr, rfl⟩⟩

/-! ## Writing -/

/-- Everything a write that completes can do, by the region it reaches (R64). -/
inductive WriteEffect (a : Addr) (v : Byte) (s : State) : State → Prop where
  | ram {i : Nat} (h : regionOf s a = .ram i) : WriteEffect a v s (s.setRam i v)
  | ppu {r : Nat} (p : PpuState) (h : regionOf s a = .ppu r)
      (hp : p = { s.ppu with ctrl := v } ∨ p = { s.ppu with mask := v } ∨ p = s.ppu) :
      WriteEffect a v s (s.setPpu p)
  | channel {r : Nat} (h : regionOf s a = .apuChannel r) : WriteEffect a v s (s.setApu (writeChannel r v s.apu))
  | enables (h : regionOf s a = .apuStatus) : WriteEffect a v s (s.setApu (writeEnables v s.apu))
  | strobe (h : regionOf s a = .pad1) : WriteEffect a v s (s.setPad (padAfterWrite s.buttons v s.pad))
  | frameCounter (h : regionOf s a = .pad2) :
      WriteEffect a v s (s.setApu (writeFrameCounter s.params.frameResetDelay v s.apu))
  | nsfBank {i : Nat} (h : regionOf s a = .nsfBank i) :
      WriteEffect a v s (s.setMapper (nsfBankWrite i v s.mapper) s.windows)
  | prgRam {i : Nat} (h : regionOf s a = .prgRam i) : WriteEffect a v s (s.setPrgRam i v)
  | mapper {f : NesFile} {m : MapperState} {w : Windows} (h : regionOf s a = .cart) (hc : s.cart = .nes f)
      (hw : mapperWrite f a v s.mapper s.windows = .next (m, w)) : WriteEffect a v s (s.setMapper m w)

theorem memWrite_effect {a : Addr} {v : Byte} {s t : State} (h : memWrite a v s = .next t) : WriteEffect a v s t := by
  unfold memWrite at h
  split at h <;> rename_i hr
  · cases h; exact .ram hr
  · unfold ppuWrite at h
    split at h
    · cases h; exact .ppu _ hr (.inl rfl)
    · split at h
      · cases h; exact .ppu _ hr (.inr (.inl rfl))
      · split at h
        · cases h; exact .ppu s.ppu hr (.inr (.inr rfl))
        · cases h
  · cases h; exact .channel hr
  · cases h
  · cases h; exact .enables hr
  · cases h; exact .strobe hr
  · cases h; exact .frameCounter hr
  · cases h
  · cases h; exact .nsfBank hr
  · cases h; exact .prgRam hr
  · unfold cartWrite at h
    split at h
    · rename_i f hc
      obtain ⟨mw, hm, ht⟩ := andThen_eq_next.1 h
      cases ht
      exact .mapper hr hc hm
    · cases h
  · cases h

/-- A write completes where the address is writable. -/
theorem memWrite_of_writable {a : Addr} {v : Byte} {s : State} (h : writable s a v = true) :
    ∃ t, memWrite a v s = .next t := by
  unfold writable at h
  unfold memWrite
  split at h <;> rename_i hr <;> rw [hr] <;> try exact ⟨_, rfl⟩
  · rename_i r
    simp only [decide_eq_true_eq] at h
    simp only [ppuWrite]
    have : r = 0 ∨ r = 1 ∨ r = 2 := by omega
    rcases this with rfl | rfl | rfl <;> exact ⟨_, rfl⟩
  · simp only [cartWrite]
    cases hc : s.cart with
    | nes f =>
      simp only [hc] at h ⊢
      obtain ⟨mw, hm⟩ := mapperWrite_of_accepts (w := s.windows) h
      exact ⟨_, andThen_eq_next.2 ⟨mw, hm, rfl⟩⟩
    | nsf f => simp [hc] at h
  all_goals exact absurd h (by simp)

/-- The registers and everything around the devices and memories after a write. -/
theorem memWrite_keeps {a : Addr} {v : Byte} {s t : State} (h : memWrite a v s = .next t) :
    t.a = s.a ∧ t.x = s.x ∧ t.y = s.y ∧ t.sp = s.sp ∧ t.pc = s.pc ∧ t.p = s.p ∧ t.cart = s.cart ∧
    t.track = s.track ∧ t.params = s.params ∧ t.drawCount = s.drawCount := by
  cases memWrite_effect h <;> simp

/-! ## The stack -/

@[simp] theorem push_a (v : Byte) (s : State) : (push v s).a = s.a := rfl
@[simp] theorem push_x (v : Byte) (s : State) : (push v s).x = s.x := rfl
@[simp] theorem push_y (v : Byte) (s : State) : (push v s).y = s.y := rfl
@[simp] theorem push_p (v : Byte) (s : State) : (push v s).p = s.p := rfl
@[simp] theorem push_pc (v : Byte) (s : State) : (push v s).pc = s.pc := rfl
@[simp] theorem push_sp (v : Byte) (s : State) : (push v s).sp = s.sp - 1 := rfl
@[simp] theorem push_ram (v : Byte) (s : State) : (push v s).ram = s.ram.write (stackIndex s.sp) v := rfl
@[simp] theorem push_cart (v : Byte) (s : State) : (push v s).cart = s.cart := rfl

/-- A stack index lies in page 1. -/
theorem stackIndex_lt (sp : Byte) : stackIndex sp < 512 := by
  have := sp.isLt
  simp only [stackIndex]
  omega

/-- The address `$0100 + S` of a stack byte (R23). -/
def stackAddr (sp : Byte) : Addr := 0x0100 + zext16 sp

theorem stackAddr_toNat (sp : Byte) : (stackAddr sp).toNat = stackIndex sp := by
  have := sp.isLt
  simp only [stackAddr, zext16, stackIndex]
  bv_omega

/-- `Push` is a `MemWrite` to $0100 + S, and that write never faults (R69). -/
theorem push_eq_memWrite (v : Byte) (s : State) :
    memWrite (stackAddr s.sp) v s = .next (s.setRam (stackIndex s.sp) v) := by
  have h := stackIndex_lt s.sp
  have e := stackAddr_toNat s.sp
  simp only [memWrite]
  rw [regionOf_ram (by omega), e, Nat.mod_eq_of_lt (by omega)]

/-- A byte pushed on canonical RAM is pulled again, and S is back (R69). -/
theorem pulled_push (v : Byte) (s : State) (h : s.ram.wf = true) :
    pulled (push v s) = v ∧ (afterPull (push v s)).sp = s.sp := by
  refine ⟨?_, ?_⟩
  · simp only [pulled, push_ram, push_sp, BitVec.sub_add_cancel]
    exact Memory.read_write_same _ _ h
  · simp [afterPull]

/-! ## Interrupts -/

/-- Taking an interrupt completes where the vector's two bytes are readable after the pushes, and leaves what R302 and
R329 say. -/
theorem takeInterrupt_eq_next {ret : Addr} {q : Byte} {vec : Addr} {s t : State}
    (h : takeInterrupt ret q vec s = .next t) :
    ∃ r, read16 vec ((push q (push16 ret s)).setP (setBit s.p 2 true)) = .next r ∧ t = r.2.setPc r.1 := by
  obtain ⟨r, hr, ht⟩ := andThen_eq_next.1 h
  cases ht
  exact ⟨r, hr, rfl⟩

@[simp] theorem returnFromInterrupt_a (s : State) : (returnFromInterrupt s).a = s.a := rfl
@[simp] theorem returnFromInterrupt_ram (s : State) : (returnFromInterrupt s).ram = s.ram := rfl
@[simp] theorem returnFromInterrupt_p (s : State) :
    (returnFromInterrupt s).p = pulledStatus (pulled s) s.p := rfl

/-- In video mode a read of $8000-$FFFF is the window's byte and changes nothing (R104). -/
theorem memRead_cart_nes {s : State} {f : NesFile} {a : Addr} (hc : s.cart = .nes f) (ha : 0x8000 ≤ a.toNat) :
    memRead a s = .next (prgRead f s.windows a, s) := by
  simp only [memRead, regionOf_cart ha, cartRead, cartByte, hc]

end Sys2Proof.Machine
end

