-- ==== Sys2Proof/Laws/Operands.lean ====
section
/-!
SUPPORT. What the flag computations and the shapes of instruction do, said once: each bit of P after a write of one flag,
the B bits, and the next state of each shape.
-/

namespace Sys2Proof.Machine

/-! ## Bits -/

/-- Each bit after one bit is written. -/
theorem getLsbD_setBit (v : Byte) (n i : Nat) (b : Bool) (hn : n < 8) :
    (setBit v n b).getLsbD i = if i = n then b else v.getLsbD i := by
  have hm : ((1#8 <<< n).getLsbD i) = decide (i = n) := by
    simp only [BitVec.getLsbD_shiftLeft, BitVec.getLsbD_one]
    rcases Nat.lt_trichotomy i n with h | h | h
    · simp [h, Nat.ne_of_lt h]
    · subst h; simp [hn]
    · simp [Nat.not_lt.2 (Nat.le_of_lt h), Nat.sub_ne_zero_of_lt h, Nat.ne_of_gt h]
  by_cases h : i = n
  · subst h
    cases b <;> simp [setBit, hn]
  · cases b
    · by_cases hi : i < 8
      · simp only [setBit, Bool.false_eq_true, if_false, BitVec.getLsbD_and, BitVec.getLsbD_not, hm, h, decide_false,
          hi, decide_true, Bool.not_false, Bool.and_true]
      · simp only [h, if_false]
        rw [BitVec.getLsbD_of_ge _ _ (Nat.le_of_not_lt hi), BitVec.getLsbD_of_ge _ _ (Nat.le_of_not_lt hi)]
    · simp only [setBit, if_true, BitVec.getLsbD_or, hm, h, decide_false, Bool.or_false, if_false]

/-- Writing a bit other than the two B bits keeps them. -/
theorem setBit_bMask (v : Byte) (n : Nat) (b : Bool) (h : n = 0 ∨ n = 1 ∨ n = 2 ∨ n = 3 ∨ n = 6 ∨ n = 7) :
    setBit v n b &&& 0x30 = v &&& 0x30 := by
  apply BitVec.eq_of_getLsbD_eq
  intro i hi
  rw [BitVec.getLsbD_and, BitVec.getLsbD_and, getLsbD_setBit v n i b (by omega)]
  by_cases e : i = n
  · have : (0x30 : Byte).getLsbD i = false := by
      subst e
      rcases h with rfl | rfl | rfl | rfl | rfl | rfl <;> rfl
    rw [this, Bool.and_false, Bool.and_false]
  · rw [if_neg e]

/-! ## The B bits (R26) -/

@[simp] theorem setC_bMask (b : Bool) (p : Byte) : setC b p &&& 48#8 = p &&& 48#8 := setBit_bMask p 0 b (by simp)
@[simp] theorem setZ_bMask (b : Bool) (p : Byte) : setZ b p &&& 48#8 = p &&& 48#8 := setBit_bMask p 1 b (by simp)
@[simp] theorem setI_bMask (b : Bool) (p : Byte) : setI b p &&& 48#8 = p &&& 48#8 := setBit_bMask p 2 b (by simp)
@[simp] theorem setD_bMask (b : Bool) (p : Byte) : setD b p &&& 48#8 = p &&& 48#8 := setBit_bMask p 3 b (by simp)
@[simp] theorem setV_bMask (b : Bool) (p : Byte) : setV b p &&& 48#8 = p &&& 48#8 := setBit_bMask p 6 b (by simp)
@[simp] theorem setN_bMask (b : Bool) (p : Byte) : setN b p &&& 48#8 = p &&& 48#8 := setBit_bMask p 7 b (by simp)

@[simp] theorem setNZ_bMask (v p : Byte) : setNZ v p &&& 48#8 = p &&& 48#8 := by simp [setNZ]
@[simp] theorem sumFlags_bMask (a m p : Byte) : sumFlags a m p &&& 48#8 = p &&& 48#8 := by simp [sumFlags]
@[simp] theorem compareFlags_bMask (r m p : Byte) : compareFlags r m p &&& 48#8 = p &&& 48#8 := by simp [compareFlags]
@[simp] theorem bitFlags_bMask (a m p : Byte) : bitFlags a m p &&& 48#8 = p &&& 48#8 := by simp [bitFlags]
@[simp] theorem shiftFlags_bMask (r : Shifted) (p : Byte) : shiftFlags r p &&& 48#8 = p &&& 48#8 := by simp [shiftFlags]

/-- A pulled status keeps the CPU's own B bits (R26). -/
@[simp] theorem pulledStatus_bMask (v p : Byte) : pulledStatus v p &&& 48#8 = p &&& 48#8 := by
  simp only [pulledStatus, bMask]
  ext i hi
  simp only [BitVec.getElem_and, BitVec.getElem_or, BitVec.getElem_not]
  cases (48#8)[i] <;> simp

/-! ## Shapes -/

/-- An instruction that has its operand's value completes. -/
theorem withValue_next (v : Byte) (n : Nat) (f : Byte → State → State) (s : State) :
    withValue v n f s = .next ((f v s).advance n) := rfl

/-- A reading instruction completes where its read does. -/
theorem withRead_next {ea : Addr} {n : Nat} {f : Byte → State → State} {s s1 : State} {m : Byte}
    (h : memRead ea s = .next (m, s1)) : withRead ea n f s = .next ((f m s1).advance n) := by
  simp only [withRead, h, andThen_next]

/-- Everything a reading instruction can do when it completes. -/
theorem withRead_eq_next {ea : Addr} {n : Nat} {f : Byte → State → State} {s t : State}
    (h : withRead ea n f s = .next t) : ∃ m s1, memRead ea s = .next (m, s1) ∧ t = (f m s1).advance n := by
  obtain ⟨⟨m, s1⟩, hr, ht⟩ := andThen_eq_next.1 h
  cases ht
  exact ⟨m, s1, hr, rfl⟩

/-- A storing instruction completes where its write does. -/
theorem withStore_next {ea : Addr} {n : Nat} {v : Byte} {s s1 : State} (h : memWrite ea v s = .next s1) :
    withStore ea n v s = .next (s1.advance n) := by
  simp only [withStore, h, andThen_next]

/-- Everything a storing instruction can do when it completes. -/
theorem withStore_eq_next {ea : Addr} {n : Nat} {v : Byte} {s t : State} (h : withStore ea n v s = .next t) :
    ∃ s1, memWrite ea v s = .next s1 ∧ t = s1.advance n := by
  obtain ⟨s1, hw, ht⟩ := andThen_eq_next.1 h
  cases ht
  exact ⟨s1, hw, rfl⟩

/-- A read-modify-write completes where its read and its write do. -/
theorem withModify_next {ea : Addr} {n : Nat} {result : Byte → Byte} {flags : Byte → Byte → Byte} {s s1 s2 : State}
    {m : Byte} (hr : memRead ea s = .next (m, s1)) (hw : memWrite ea (result m) s1 = .next s2) :
    withModify ea n result flags s = .next ((s2.setP (flags m s2.p)).advance n) := by
  simp only [withModify, hr, hw, andThen_next]

/-- Everything a read-modify-write can do when it completes. -/
theorem withModify_eq_next {ea : Addr} {n : Nat} {result : Byte → Byte} {flags : Byte → Byte → Byte} {s t : State}
    (h : withModify ea n result flags s = .next t) :
    ∃ m s1 s2, memRead ea s = .next (m, s1) ∧ memWrite ea (result m) s1 = .next s2 ∧
      t = (s2.setP (flags m s2.p)).advance n := by
  obtain ⟨⟨m, s1⟩, hr, h2⟩ := andThen_eq_next.1 h
  obtain ⟨s2, hw, ht⟩ := andThen_eq_next.1 h2
  cases ht
  exact ⟨m, s1, s2, hr, hw, rfl⟩

/-! ## What a shape hands over when an access stops -/

theorem withRead_fault {ea : Addr} {n : Nat} {f : Byte → State → State} {s : State} {e : Fault}
    (h : memRead ea s = .fault e) : withRead ea n f s = .fault e := by
  simp only [withRead, h, andThen_fault]

theorem withRead_refused {ea : Addr} {n : Nat} {f : Byte → State → State} {s : State} {e : Refusal}
    (h : memRead ea s = .refused e) : withRead ea n f s = .refused e := by
  simp only [withRead, h, andThen_refused]

theorem withStore_fault {ea : Addr} {n : Nat} {v : Byte} {s : State} {e : Fault} (h : memWrite ea v s = .fault e) :
    withStore ea n v s = .fault e := by
  simp only [withStore, h, andThen_fault]

theorem withStore_refused {ea : Addr} {n : Nat} {v : Byte} {s : State} {e : Refusal}
    (h : memWrite ea v s = .refused e) : withStore ea n v s = .refused e := by
  simp only [withStore, h, andThen_refused]

end Sys2Proof.Machine
end

