-- ==== Sys2Proof/Laws/PerInstr.lean ====
section
/-!
SUPPORT. The family Encoded: what is said of every instruction as syntax, with one lemma per constructor of Instr.
-/

namespace Sys2Proof.Laws.Encoded

/-- The instruction is well formed (R158), its encoding has its length, and its opcode has a row with as many operand bytes
as it has (R140, R141). -/
def Statement (i : Instr) : Prop :=
  i.wellFormed = true ∧ (encode i).length = i.length ∧
  (formOf i.opcode).map Form.operandCount = some i.operandBytes.length

theorem ldaImm (b : Byte) : Statement (.ldaImm b) := ⟨rfl, rfl, (rfl : (formOf 0xA9#8).map _ = some 1)⟩
theorem ldaZp (b : Byte) : Statement (.ldaZp b) := ⟨rfl, rfl, (rfl : (formOf 0xA5#8).map _ = some 1)⟩
theorem ldaZpX (b : Byte) : Statement (.ldaZpX b) := ⟨rfl, rfl, (rfl : (formOf 0xB5#8).map _ = some 1)⟩
theorem ldaAbs (w : Addr) : Statement (.ldaAbs w) := ⟨rfl, rfl, (rfl : (formOf 0xAD#8).map _ = some 2)⟩
theorem ldaAbsX (w : Addr) : Statement (.ldaAbsX w) := ⟨rfl, rfl, (rfl : (formOf 0xBD#8).map _ = some 2)⟩
theorem ldaAbsY (w : Addr) : Statement (.ldaAbsY w) := ⟨rfl, rfl, (rfl : (formOf 0xB9#8).map _ = some 2)⟩
theorem ldaIndX (b : Byte) : Statement (.ldaIndX b) := ⟨rfl, rfl, (rfl : (formOf 0xA1#8).map _ = some 1)⟩
theorem ldaIndY (b : Byte) : Statement (.ldaIndY b) := ⟨rfl, rfl, (rfl : (formOf 0xB1#8).map _ = some 1)⟩
theorem ldxImm (b : Byte) : Statement (.ldxImm b) := ⟨rfl, rfl, (rfl : (formOf 0xA2#8).map _ = some 1)⟩
theorem ldxZp (b : Byte) : Statement (.ldxZp b) := ⟨rfl, rfl, (rfl : (formOf 0xA6#8).map _ = some 1)⟩
theorem ldxZpY (b : Byte) : Statement (.ldxZpY b) := ⟨rfl, rfl, (rfl : (formOf 0xB6#8).map _ = some 1)⟩
theorem ldxAbs (w : Addr) : Statement (.ldxAbs w) := ⟨rfl, rfl, (rfl : (formOf 0xAE#8).map _ = some 2)⟩
theorem ldxAbsY (w : Addr) : Statement (.ldxAbsY w) := ⟨rfl, rfl, (rfl : (formOf 0xBE#8).map _ = some 2)⟩
theorem ldyImm (b : Byte) : Statement (.ldyImm b) := ⟨rfl, rfl, (rfl : (formOf 0xA0#8).map _ = some 1)⟩
theorem ldyZp (b : Byte) : Statement (.ldyZp b) := ⟨rfl, rfl, (rfl : (formOf 0xA4#8).map _ = some 1)⟩
theorem ldyZpX (b : Byte) : Statement (.ldyZpX b) := ⟨rfl, rfl, (rfl : (formOf 0xB4#8).map _ = some 1)⟩
theorem ldyAbs (w : Addr) : Statement (.ldyAbs w) := ⟨rfl, rfl, (rfl : (formOf 0xAC#8).map _ = some 2)⟩
theorem ldyAbsX (w : Addr) : Statement (.ldyAbsX w) := ⟨rfl, rfl, (rfl : (formOf 0xBC#8).map _ = some 2)⟩
theorem staZp (b : Byte) : Statement (.staZp b) := ⟨rfl, rfl, (rfl : (formOf 0x85#8).map _ = some 1)⟩
theorem staZpX (b : Byte) : Statement (.staZpX b) := ⟨rfl, rfl, (rfl : (formOf 0x95#8).map _ = some 1)⟩
theorem staAbs (w : Addr) : Statement (.staAbs w) := ⟨rfl, rfl, (rfl : (formOf 0x8D#8).map _ = some 2)⟩
theorem staAbsX (w : Addr) : Statement (.staAbsX w) := ⟨rfl, rfl, (rfl : (formOf 0x9D#8).map _ = some 2)⟩
theorem staAbsY (w : Addr) : Statement (.staAbsY w) := ⟨rfl, rfl, (rfl : (formOf 0x99#8).map _ = some 2)⟩
theorem staIndX (b : Byte) : Statement (.staIndX b) := ⟨rfl, rfl, (rfl : (formOf 0x81#8).map _ = some 1)⟩
theorem staIndY (b : Byte) : Statement (.staIndY b) := ⟨rfl, rfl, (rfl : (formOf 0x91#8).map _ = some 1)⟩
theorem stxZp (b : Byte) : Statement (.stxZp b) := ⟨rfl, rfl, (rfl : (formOf 0x86#8).map _ = some 1)⟩
theorem stxZpY (b : Byte) : Statement (.stxZpY b) := ⟨rfl, rfl, (rfl : (formOf 0x96#8).map _ = some 1)⟩
theorem stxAbs (w : Addr) : Statement (.stxAbs w) := ⟨rfl, rfl, (rfl : (formOf 0x8E#8).map _ = some 2)⟩
theorem styZp (b : Byte) : Statement (.styZp b) := ⟨rfl, rfl, (rfl : (formOf 0x84#8).map _ = some 1)⟩
theorem styZpX (b : Byte) : Statement (.styZpX b) := ⟨rfl, rfl, (rfl : (formOf 0x94#8).map _ = some 1)⟩
theorem styAbs (w : Addr) : Statement (.styAbs w) := ⟨rfl, rfl, (rfl : (formOf 0x8C#8).map _ = some 2)⟩
theorem tax : Statement .tax := ⟨rfl, rfl, (rfl : (formOf 0xAA#8).map _ = some 0)⟩
theorem tay : Statement .tay := ⟨rfl, rfl, (rfl : (formOf 0xA8#8).map _ = some 0)⟩
theorem txa : Statement .txa := ⟨rfl, rfl, (rfl : (formOf 0x8A#8).map _ = some 0)⟩
theorem tya : Statement .tya := ⟨rfl, rfl, (rfl : (formOf 0x98#8).map _ = some 0)⟩
theorem tsx : Statement .tsx := ⟨rfl, rfl, (rfl : (formOf 0xBA#8).map _ = some 0)⟩
theorem txs : Statement .txs := ⟨rfl, rfl, (rfl : (formOf 0x9A#8).map _ = some 0)⟩
theorem adcImm (b : Byte) : Statement (.adcImm b) := ⟨rfl, rfl, (rfl : (formOf 0x69#8).map _ = some 1)⟩
theorem adcZp (b : Byte) : Statement (.adcZp b) := ⟨rfl, rfl, (rfl : (formOf 0x65#8).map _ = some 1)⟩
theorem adcZpX (b : Byte) : Statement (.adcZpX b) := ⟨rfl, rfl, (rfl : (formOf 0x75#8).map _ = some 1)⟩
theorem adcAbs (w : Addr) : Statement (.adcAbs w) := ⟨rfl, rfl, (rfl : (formOf 0x6D#8).map _ = some 2)⟩
theorem adcAbsX (w : Addr) : Statement (.adcAbsX w) := ⟨rfl, rfl, (rfl : (formOf 0x7D#8).map _ = some 2)⟩
theorem adcAbsY (w : Addr) : Statement (.adcAbsY w) := ⟨rfl, rfl, (rfl : (formOf 0x79#8).map _ = some 2)⟩
theorem adcIndX (b : Byte) : Statement (.adcIndX b) := ⟨rfl, rfl, (rfl : (formOf 0x61#8).map _ = some 1)⟩
theorem adcIndY (b : Byte) : Statement (.adcIndY b) := ⟨rfl, rfl, (rfl : (formOf 0x71#8).map _ = some 1)⟩
theorem sbcImm (b : Byte) : Statement (.sbcImm b) := ⟨rfl, rfl, (rfl : (formOf 0xE9#8).map _ = some 1)⟩
theorem sbcZp (b : Byte) : Statement (.sbcZp b) := ⟨rfl, rfl, (rfl : (formOf 0xE5#8).map _ = some 1)⟩
theorem sbcZpX (b : Byte) : Statement (.sbcZpX b) := ⟨rfl, rfl, (rfl : (formOf 0xF5#8).map _ = some 1)⟩
theorem sbcAbs (w : Addr) : Statement (.sbcAbs w) := ⟨rfl, rfl, (rfl : (formOf 0xED#8).map _ = some 2)⟩
theorem sbcAbsX (w : Addr) : Statement (.sbcAbsX w) := ⟨rfl, rfl, (rfl : (formOf 0xFD#8).map _ = some 2)⟩
theorem sbcAbsY (w : Addr) : Statement (.sbcAbsY w) := ⟨rfl, rfl, (rfl : (formOf 0xF9#8).map _ = some 2)⟩
theorem sbcIndX (b : Byte) : Statement (.sbcIndX b) := ⟨rfl, rfl, (rfl : (formOf 0xE1#8).map _ = some 1)⟩
theorem sbcIndY (b : Byte) : Statement (.sbcIndY b) := ⟨rfl, rfl, (rfl : (formOf 0xF1#8).map _ = some 1)⟩
theorem andImm (b : Byte) : Statement (.andImm b) := ⟨rfl, rfl, (rfl : (formOf 0x29#8).map _ = some 1)⟩
theorem andZp (b : Byte) : Statement (.andZp b) := ⟨rfl, rfl, (rfl : (formOf 0x25#8).map _ = some 1)⟩
theorem andZpX (b : Byte) : Statement (.andZpX b) := ⟨rfl, rfl, (rfl : (formOf 0x35#8).map _ = some 1)⟩
theorem andAbs (w : Addr) : Statement (.andAbs w) := ⟨rfl, rfl, (rfl : (formOf 0x2D#8).map _ = some 2)⟩
theorem andAbsX (w : Addr) : Statement (.andAbsX w) := ⟨rfl, rfl, (rfl : (formOf 0x3D#8).map _ = some 2)⟩
theorem andAbsY (w : Addr) : Statement (.andAbsY w) := ⟨rfl, rfl, (rfl : (formOf 0x39#8).map _ = some 2)⟩
theorem andIndX (b : Byte) : Statement (.andIndX b) := ⟨rfl, rfl, (rfl : (formOf 0x21#8).map _ = some 1)⟩
theorem andIndY (b : Byte) : Statement (.andIndY b) := ⟨rfl, rfl, (rfl : (formOf 0x31#8).map _ = some 1)⟩
theorem oraImm (b : Byte) : Statement (.oraImm b) := ⟨rfl, rfl, (rfl : (formOf 0x09#8).map _ = some 1)⟩
theorem oraZp (b : Byte) : Statement (.oraZp b) := ⟨rfl, rfl, (rfl : (formOf 0x05#8).map _ = some 1)⟩
theorem oraZpX (b : Byte) : Statement (.oraZpX b) := ⟨rfl, rfl, (rfl : (formOf 0x15#8).map _ = some 1)⟩
theorem oraAbs (w : Addr) : Statement (.oraAbs w) := ⟨rfl, rfl, (rfl : (formOf 0x0D#8).map _ = some 2)⟩
theorem oraAbsX (w : Addr) : Statement (.oraAbsX w) := ⟨rfl, rfl, (rfl : (formOf 0x1D#8).map _ = some 2)⟩
theorem oraAbsY (w : Addr) : Statement (.oraAbsY w) := ⟨rfl, rfl, (rfl : (formOf 0x19#8).map _ = some 2)⟩
theorem oraIndX (b : Byte) : Statement (.oraIndX b) := ⟨rfl, rfl, (rfl : (formOf 0x01#8).map _ = some 1)⟩
theorem oraIndY (b : Byte) : Statement (.oraIndY b) := ⟨rfl, rfl, (rfl : (formOf 0x11#8).map _ = some 1)⟩
theorem eorImm (b : Byte) : Statement (.eorImm b) := ⟨rfl, rfl, (rfl : (formOf 0x49#8).map _ = some 1)⟩
theorem eorZp (b : Byte) : Statement (.eorZp b) := ⟨rfl, rfl, (rfl : (formOf 0x45#8).map _ = some 1)⟩
theorem eorZpX (b : Byte) : Statement (.eorZpX b) := ⟨rfl, rfl, (rfl : (formOf 0x55#8).map _ = some 1)⟩
theorem eorAbs (w : Addr) : Statement (.eorAbs w) := ⟨rfl, rfl, (rfl : (formOf 0x4D#8).map _ = some 2)⟩
theorem eorAbsX (w : Addr) : Statement (.eorAbsX w) := ⟨rfl, rfl, (rfl : (formOf 0x5D#8).map _ = some 2)⟩
theorem eorAbsY (w : Addr) : Statement (.eorAbsY w) := ⟨rfl, rfl, (rfl : (formOf 0x59#8).map _ = some 2)⟩
theorem eorIndX (b : Byte) : Statement (.eorIndX b) := ⟨rfl, rfl, (rfl : (formOf 0x41#8).map _ = some 1)⟩
theorem eorIndY (b : Byte) : Statement (.eorIndY b) := ⟨rfl, rfl, (rfl : (formOf 0x51#8).map _ = some 1)⟩
theorem cmpImm (b : Byte) : Statement (.cmpImm b) := ⟨rfl, rfl, (rfl : (formOf 0xC9#8).map _ = some 1)⟩
theorem cmpZp (b : Byte) : Statement (.cmpZp b) := ⟨rfl, rfl, (rfl : (formOf 0xC5#8).map _ = some 1)⟩
theorem cmpZpX (b : Byte) : Statement (.cmpZpX b) := ⟨rfl, rfl, (rfl : (formOf 0xD5#8).map _ = some 1)⟩
theorem cmpAbs (w : Addr) : Statement (.cmpAbs w) := ⟨rfl, rfl, (rfl : (formOf 0xCD#8).map _ = some 2)⟩
theorem cmpAbsX (w : Addr) : Statement (.cmpAbsX w) := ⟨rfl, rfl, (rfl : (formOf 0xDD#8).map _ = some 2)⟩
theorem cmpAbsY (w : Addr) : Statement (.cmpAbsY w) := ⟨rfl, rfl, (rfl : (formOf 0xD9#8).map _ = some 2)⟩
theorem cmpIndX (b : Byte) : Statement (.cmpIndX b) := ⟨rfl, rfl, (rfl : (formOf 0xC1#8).map _ = some 1)⟩
theorem cmpIndY (b : Byte) : Statement (.cmpIndY b) := ⟨rfl, rfl, (rfl : (formOf 0xD1#8).map _ = some 1)⟩
theorem cpxImm (b : Byte) : Statement (.cpxImm b) := ⟨rfl, rfl, (rfl : (formOf 0xE0#8).map _ = some 1)⟩
theorem cpxZp (b : Byte) : Statement (.cpxZp b) := ⟨rfl, rfl, (rfl : (formOf 0xE4#8).map _ = some 1)⟩
theorem cpxAbs (w : Addr) : Statement (.cpxAbs w) := ⟨rfl, rfl, (rfl : (formOf 0xEC#8).map _ = some 2)⟩
theorem cpyImm (b : Byte) : Statement (.cpyImm b) := ⟨rfl, rfl, (rfl : (formOf 0xC0#8).map _ = some 1)⟩
theorem cpyZp (b : Byte) : Statement (.cpyZp b) := ⟨rfl, rfl, (rfl : (formOf 0xC4#8).map _ = some 1)⟩
theorem cpyAbs (w : Addr) : Statement (.cpyAbs w) := ⟨rfl, rfl, (rfl : (formOf 0xCC#8).map _ = some 2)⟩
theorem bitZp (b : Byte) : Statement (.bitZp b) := ⟨rfl, rfl, (rfl : (formOf 0x24#8).map _ = some 1)⟩
theorem bitAbs (w : Addr) : Statement (.bitAbs w) := ⟨rfl, rfl, (rfl : (formOf 0x2C#8).map _ = some 2)⟩
theorem incZp (b : Byte) : Statement (.incZp b) := ⟨rfl, rfl, (rfl : (formOf 0xE6#8).map _ = some 1)⟩
theorem incZpX (b : Byte) : Statement (.incZpX b) := ⟨rfl, rfl, (rfl : (formOf 0xF6#8).map _ = some 1)⟩
theorem incAbs (w : Addr) : Statement (.incAbs w) := ⟨rfl, rfl, (rfl : (formOf 0xEE#8).map _ = some 2)⟩
theorem incAbsX (w : Addr) : Statement (.incAbsX w) := ⟨rfl, rfl, (rfl : (formOf 0xFE#8).map _ = some 2)⟩
theorem decZp (b : Byte) : Statement (.decZp b) := ⟨rfl, rfl, (rfl : (formOf 0xC6#8).map _ = some 1)⟩
theorem decZpX (b : Byte) : Statement (.decZpX b) := ⟨rfl, rfl, (rfl : (formOf 0xD6#8).map _ = some 1)⟩
theorem decAbs (w : Addr) : Statement (.decAbs w) := ⟨rfl, rfl, (rfl : (formOf 0xCE#8).map _ = some 2)⟩
theorem decAbsX (w : Addr) : Statement (.decAbsX w) := ⟨rfl, rfl, (rfl : (formOf 0xDE#8).map _ = some 2)⟩
theorem inx : Statement .inx := ⟨rfl, rfl, (rfl : (formOf 0xE8#8).map _ = some 0)⟩
theorem iny : Statement .iny := ⟨rfl, rfl, (rfl : (formOf 0xC8#8).map _ = some 0)⟩
theorem dex : Statement .dex := ⟨rfl, rfl, (rfl : (formOf 0xCA#8).map _ = some 0)⟩
theorem dey : Statement .dey := ⟨rfl, rfl, (rfl : (formOf 0x88#8).map _ = some 0)⟩
theorem aslAcc : Statement .aslAcc := ⟨rfl, rfl, (rfl : (formOf 0x0A#8).map _ = some 0)⟩
theorem aslZp (b : Byte) : Statement (.aslZp b) := ⟨rfl, rfl, (rfl : (formOf 0x06#8).map _ = some 1)⟩
theorem aslZpX (b : Byte) : Statement (.aslZpX b) := ⟨rfl, rfl, (rfl : (formOf 0x16#8).map _ = some 1)⟩
theorem aslAbs (w : Addr) : Statement (.aslAbs w) := ⟨rfl, rfl, (rfl : (formOf 0x0E#8).map _ = some 2)⟩
theorem aslAbsX (w : Addr) : Statement (.aslAbsX w) := ⟨rfl, rfl, (rfl : (formOf 0x1E#8).map _ = some 2)⟩
theorem lsrAcc : Statement .lsrAcc := ⟨rfl, rfl, (rfl : (formOf 0x4A#8).map _ = some 0)⟩
theorem lsrZp (b : Byte) : Statement (.lsrZp b) := ⟨rfl, rfl, (rfl : (formOf 0x46#8).map _ = some 1)⟩
theorem lsrZpX (b : Byte) : Statement (.lsrZpX b) := ⟨rfl, rfl, (rfl : (formOf 0x56#8).map _ = some 1)⟩
theorem lsrAbs (w : Addr) : Statement (.lsrAbs w) := ⟨rfl, rfl, (rfl : (formOf 0x4E#8).map _ = some 2)⟩
theorem lsrAbsX (w : Addr) : Statement (.lsrAbsX w) := ⟨rfl, rfl, (rfl : (formOf 0x5E#8).map _ = some 2)⟩
theorem rolAcc : Statement .rolAcc := ⟨rfl, rfl, (rfl : (formOf 0x2A#8).map _ = some 0)⟩
theorem rolZp (b : Byte) : Statement (.rolZp b) := ⟨rfl, rfl, (rfl : (formOf 0x26#8).map _ = some 1)⟩
theorem rolZpX (b : Byte) : Statement (.rolZpX b) := ⟨rfl, rfl, (rfl : (formOf 0x36#8).map _ = some 1)⟩
theorem rolAbs (w : Addr) : Statement (.rolAbs w) := ⟨rfl, rfl, (rfl : (formOf 0x2E#8).map _ = some 2)⟩
theorem rolAbsX (w : Addr) : Statement (.rolAbsX w) := ⟨rfl, rfl, (rfl : (formOf 0x3E#8).map _ = some 2)⟩
theorem rorAcc : Statement .rorAcc := ⟨rfl, rfl, (rfl : (formOf 0x6A#8).map _ = some 0)⟩
theorem rorZp (b : Byte) : Statement (.rorZp b) := ⟨rfl, rfl, (rfl : (formOf 0x66#8).map _ = some 1)⟩
theorem rorZpX (b : Byte) : Statement (.rorZpX b) := ⟨rfl, rfl, (rfl : (formOf 0x76#8).map _ = some 1)⟩
theorem rorAbs (w : Addr) : Statement (.rorAbs w) := ⟨rfl, rfl, (rfl : (formOf 0x6E#8).map _ = some 2)⟩
theorem rorAbsX (w : Addr) : Statement (.rorAbsX w) := ⟨rfl, rfl, (rfl : (formOf 0x7E#8).map _ = some 2)⟩
theorem pha : Statement .pha := ⟨rfl, rfl, (rfl : (formOf 0x48#8).map _ = some 0)⟩
theorem pla : Statement .pla := ⟨rfl, rfl, (rfl : (formOf 0x68#8).map _ = some 0)⟩
theorem php : Statement .php := ⟨rfl, rfl, (rfl : (formOf 0x08#8).map _ = some 0)⟩
theorem plp : Statement .plp := ⟨rfl, rfl, (rfl : (formOf 0x28#8).map _ = some 0)⟩
theorem clc : Statement .clc := ⟨rfl, rfl, (rfl : (formOf 0x18#8).map _ = some 0)⟩
theorem sec : Statement .sec := ⟨rfl, rfl, (rfl : (formOf 0x38#8).map _ = some 0)⟩
theorem cli : Statement .cli := ⟨rfl, rfl, (rfl : (formOf 0x58#8).map _ = some 0)⟩
theorem sei : Statement .sei := ⟨rfl, rfl, (rfl : (formOf 0x78#8).map _ = some 0)⟩
theorem clv : Statement .clv := ⟨rfl, rfl, (rfl : (formOf 0xB8#8).map _ = some 0)⟩
theorem cld : Statement .cld := ⟨rfl, rfl, (rfl : (formOf 0xD8#8).map _ = some 0)⟩
theorem sed : Statement .sed := ⟨rfl, rfl, (rfl : (formOf 0xF8#8).map _ = some 0)⟩
theorem nop : Statement .nop := ⟨rfl, rfl, (rfl : (formOf 0xEA#8).map _ = some 0)⟩
theorem bcc (b : Byte) : Statement (.bcc b) := ⟨rfl, rfl, (rfl : (formOf 0x90#8).map _ = some 1)⟩
theorem bcs (b : Byte) : Statement (.bcs b) := ⟨rfl, rfl, (rfl : (formOf 0xB0#8).map _ = some 1)⟩
theorem beq (b : Byte) : Statement (.beq b) := ⟨rfl, rfl, (rfl : (formOf 0xF0#8).map _ = some 1)⟩
theorem bne (b : Byte) : Statement (.bne b) := ⟨rfl, rfl, (rfl : (formOf 0xD0#8).map _ = some 1)⟩
theorem bmi (b : Byte) : Statement (.bmi b) := ⟨rfl, rfl, (rfl : (formOf 0x30#8).map _ = some 1)⟩
theorem bpl (b : Byte) : Statement (.bpl b) := ⟨rfl, rfl, (rfl : (formOf 0x10#8).map _ = some 1)⟩
theorem bvc (b : Byte) : Statement (.bvc b) := ⟨rfl, rfl, (rfl : (formOf 0x50#8).map _ = some 1)⟩
theorem bvs (b : Byte) : Statement (.bvs b) := ⟨rfl, rfl, (rfl : (formOf 0x70#8).map _ = some 1)⟩
theorem jmpAbs (w : Addr) : Statement (.jmpAbs w) := ⟨rfl, rfl, (rfl : (formOf 0x4C#8).map _ = some 2)⟩
theorem jmpInd (w : Addr) : Statement (.jmpInd w) := ⟨rfl, rfl, (rfl : (formOf 0x6C#8).map _ = some 2)⟩
theorem jsr (w : Addr) : Statement (.jsr w) := ⟨rfl, rfl, (rfl : (formOf 0x20#8).map _ = some 2)⟩
theorem rts : Statement .rts := ⟨rfl, rfl, (rfl : (formOf 0x60#8).map _ = some 0)⟩
theorem brk : Statement .brk := ⟨rfl, rfl, (rfl : (formOf 0x00#8).map _ = some 0)⟩
theorem rti : Statement .rti := ⟨rfl, rfl, (rfl : (formOf 0x40#8).map _ = some 0)⟩

end Sys2Proof.Laws.Encoded
end

