-- ==== Sys2Proof/Laws/Step.lean ====
section
/-!
SUPPORT. Laws of the step: what a step that answers a next state can have done, said once; what the devices' advance
writes, field by field.
-/

namespace Sys2Proof.Machine

/-! ## The devices' advance -/

@[simp] theorem advanceDevices_a (c : Nat) (s : State) : (advanceDevices c s).a = s.a := rfl
@[simp] theorem advanceDevices_x (c : Nat) (s : State) : (advanceDevices c s).x = s.x := rfl
@[simp] theorem advanceDevices_y (c : Nat) (s : State) : (advanceDevices c s).y = s.y := rfl
@[simp] theorem advanceDevices_sp (c : Nat) (s : State) : (advanceDevices c s).sp = s.sp := rfl
@[simp] theorem advanceDevices_p (c : Nat) (s : State) : (advanceDevices c s).p = s.p := rfl
@[simp] theorem advanceDevices_pc (c : Nat) (s : State) : (advanceDevices c s).pc = s.pc := rfl
@[simp] theorem advanceDevices_cycles (c : Nat) (s : State) : (advanceDevices c s).cycles = s.cycles := rfl
@[simp] theorem advanceDevices_run (c : Nat) (s : State) : (advanceDevices c s).run = s.run := rfl
@[simp] theorem advanceDevices_ram (c : Nat) (s : State) : (advanceDevices c s).ram = s.ram := rfl
@[simp] theorem advanceDevices_prgRam (c : Nat) (s : State) : (advanceDevices c s).prgRam = s.prgRam := rfl
@[simp] theorem advanceDevices_cart (c : Nat) (s : State) : (advanceDevices c s).cart = s.cart := rfl
@[simp] theorem advanceDevices_mapper (c : Nat) (s : State) : (advanceDevices c s).mapper = s.mapper := rfl
@[simp] theorem advanceDevices_windows (c : Nat) (s : State) : (advanceDevices c s).windows = s.windows := rfl
@[simp] theorem advanceDevices_params (c : Nat) (s : State) : (advanceDevices c s).params = s.params := rfl
@[simp] theorem advanceDevices_ppu (c : Nat) (s : State) : (advanceDevices c s).ppu = (ppuAdvance c s).ppu := rfl
@[simp] theorem advanceDevices_audio (c : Nat) (s : State) :
    (advanceDevices c s).audio = (apuSamples c s.apu).reverse ++ s.audio := rfl
@[simp] theorem advanceDevices_apu (c : Nat) (s : State) : (advanceDevices c s).apu = apuRun c s.apu := rfl

/-! ## Inversion -/

/-- A system step that answers a next state entered the pending NMI, or ran the instruction at PC. -/
theorem systemStep_cases {s t : State} (h : systemStep s = .next t) :
    (s.nmiPending = true ∧ ∃ u, nmiEntry s = .next u ∧ t = advanceDevices nmiCycles u) ∨
    (s.nmiPending = false ∧ ∃ i u, fetchInstr s = .next i ∧ exec i s = .next u ∧
      t = advanceDevices (cycleCost i s) (addCycles (cycleCost i s) u)) := by
  cases hn : s.nmiPending with
  | true =>
    simp only [systemStep, hn, if_true, andThen_eq_next] at h
    obtain ⟨u, hu, ht⟩ := h
    exact .inl ⟨rfl, u, hu, by injection ht with ht; exact ht.symm⟩
  | false =>
    simp only [systemStep, hn, Bool.false_eq_true, if_false, andThen_eq_next, instructionStep] at h
    obtain ⟨i, hi, u, hu, ht⟩ := h
    exact .inr ⟨rfl, i, u, hi, hu, by injection ht with ht; exact ht.symm⟩

/-- A step that answers a next state is a move at the boundary of a running CORE (R29). -/
theorem step_running {s t : State} (h : step s = .next t) : s.run = .running ∧ boundary s = .next t := by
  unfold step runStep at h
  generalize hr : s.run = r at h
  cases r with
  | running => exact ⟨rfl, h⟩
  | faulted f => cases h
  | refused f => cases h
  | terminated => cases h

/-- A step that answers a next state: the run was going on, and it was a system step (with no move of the host listed, or
with a grant and its buttons), a move that changes the run state, PC or the list of moves only, or a power-up. -/
theorem step_cases {s t : State} (h : step s = .next t) :
    s.run = .running ∧
    ((s.hostQueue = [] ∧ systemStep s = .next t) ∨
      (∃ v ms, s.hostQueue = .grant v :: ms ∧ systemStep { s with buttons := v, hostQueue := ms } = .next t) ∨
      (∃ ms, s.hostQueue = .withhold :: ms ∧ t = { s with hostQueue := ms }) ∨
      (∃ ms, s.hostQueue = .endOnBudget :: ms ∧ t = endOnBudget { s with hostQueue := ms }) ∨
      (∃ ms, s.hostQueue = .playTimer :: ms ∧ t = playTimer { s with hostQueue := ms }) ∨
      (∃ file d ms, s.hostQueue = .loadNes file d :: ms ∧ loadNes file d { s with hostQueue := ms } = .next t) ∨
      (∃ file d ms, s.hostQueue = .loadNsf file d :: ms ∧ loadNsf file d { s with hostQueue := ms } = .next t) ∨
      (∃ k d ms, s.hostQueue = .changeTrack k d :: ms ∧ changeTrack k d { s with hostQueue := ms } = .next t)) := by
  obtain ⟨hr, h⟩ := step_running h
  refine ⟨hr, ?_⟩
  unfold boundary at h
  cases hq : s.hostQueue with
  | nil => simp only [hq] at h; exact .inl ⟨rfl, h⟩
  | cons m ms =>
    simp only [hq] at h
    refine .inr ?_
    cases m with
    | grant v => exact .inl ⟨v, ms, rfl, h⟩
    | withhold => injection h with h; exact .inr (.inl ⟨ms, rfl, h.symm⟩)
    | endOnBudget => injection h with h; exact .inr (.inr (.inl ⟨ms, rfl, h.symm⟩))
    | playTimer => injection h with h; exact .inr (.inr (.inr (.inl ⟨ms, rfl, h.symm⟩)))
    | loadNes file d => exact .inr (.inr (.inr (.inr (.inl ⟨file, d, ms, rfl, h⟩))))
    | loadNsf file d => exact .inr (.inr (.inr (.inr (.inr (.inl ⟨file, d, ms, rfl, h⟩)))))
    | changeTrack k d => exact .inr (.inr (.inr (.inr (.inr (.inr ⟨k, d, ms, rfl, h⟩)))))

/-- Once a run has ended, every later step is the same stop (R322). -/
theorem step_of_faulted {s : State} {e : Fault} (h : s.run = .faulted e) : step s = .fault e := by
  simp [step, runStep, h]

theorem step_of_refused {s : State} {r : Refusal} (h : s.run = .refused r) : step s = .refused r := by
  simp [step, runStep, h]

end Sys2Proof.Machine
end

