-- ==== Sys2Proof/Tests/Slice0.lean ====
section
/-!
SUPPORT. Tests. The expected results are the spec's own: the examples and corner cases of the instruction rules, the rows of
the opcode map, the vectors of 95_test_vectors.md, and hand calculation from the rule that a test's comment names. The
witnesses at the end show that the hypotheses of the statements can be met, clause by clause, at the edges of their ranges.
-/

namespace Sys2Proof.Tests
open Sys2Proof Sys2Proof.Machine Sys2Proof.Statements

/-! ## Helpers -/

/-- The machine after reset with PC in RAM at $0400. -/
def fresh : State := { State.reset with pc := 0x0400 }

/-- Stores bytes in RAM, by index. -/
def poke : List (Nat × Byte) → State → State
  | [], s => s
  | c :: cs, s => poke cs (s.setRam c.1 c.2)

/-- One step on the bytes placed at PC. -/
def run (bytes : List Byte) (s : State) : Out State := step (placeBytes s.pc bytes s)

/-- What an outcome shows of its result, none where it stops. -/
def shows {α β : Type} (o : Out β) (f : β → α) : Option α :=
  match o with
  | .next t => some (f t)
  | .fault _ => none
  | .refused _ => none

/-- The fault of an outcome. -/
def faultOf {α : Type} (o : Out α) : Option Fault :=
  match o with
  | .next _ => none
  | .fault f => some f
  | .refused _ => none

/-- The refusal of an outcome. -/
def refusalOf {α : Type} (o : Out α) : Option Refusal :=
  match o with
  | .next _ => none
  | .fault _ => none
  | .refused r => some r

theorem completes {β : Type} {o : Out β} (h : shows o (fun _ => true) = some true) : ∃ t, o = .next t := by
  cases o with
  | next t => exact ⟨t, rfl⟩
  | fault f => cases h
  | refused r => cases h

/-- An image of n bytes, all unlisted. -/
def imageOf (n : Nat) : Image := { size := n, cells := [] }

/-- A video cartridge with the given mapper and sizes. -/
def nesOf (id : BitVec 4) (prg chr : Nat) : NesFile :=
  { prg := imageOf prg, chr := imageOf chr, mapperId := id, vertical := false }

/-- A music cartridge of 4 data bytes at $8000, with the given first initial bank. -/
def nsfOf (bank : Byte) : NsfFile :=
  { load := 0x8000, init := 0x8123, play := 0x8456, songs := 1, start := 1, ntscSpeed := 16666
    banks0 := #v[bank, 0, 0, 0, 0, 0, 0, 0], data := { size := 4, cells := [(0, 0x11), (3, 0x44)] } }

/-- A machine in NSF mode. -/
def nsfState : State := { fresh with cart := .nsf (nsfOf 0), mapper := .nsf (nsfOf 0).banks0 false }

/-- A machine in NSF mode whose data ends at the given number of bytes below $10000. -/
def nsfEnding (size : Nat) : State :=
  { nsfState with cart := .nsf { nsfOf 0 with load := 0xFFF0, data := imageOf size } }

/-! ## The check of assembled forms refuses ill-formed ones (R158) -/

theorem test_wellFormed_accepts : Raw.wellFormed ⟨.lda, .immediate, [0x01]⟩ = true := by decide
theorem test_wellFormed_refuses_mode : Raw.modeAccepted ⟨.sta, .immediate, [0x01]⟩ = false := by decide
theorem test_wellFormed_refuses_three : Raw.atMostTwo ⟨.lda, .absolute, [0x01, 0x02, 0x03]⟩ = false := by decide
theorem test_wellFormed_refuses_count : Raw.countMatches ⟨.lda, .absolute, [0x01]⟩ = false := by decide
theorem test_wellFormed_refuses_each :
    Raw.wellFormed ⟨.sta, .immediate, [0x01]⟩ = false ∧
    Raw.wellFormed ⟨.lda, .absolute, [0x01, 0x02, 0x03]⟩ = false ∧
    Raw.wellFormed ⟨.lda, .absolute, [0x01]⟩ = false := by decide

/-! ## Decoding, words written out from R156 and R142 -/

theorem test_decode_loads :
    decode [0xA9, 0x05] = .ok (.ldaImm 0x05, []) ∧ decode [0xA1, 0xFF] = .ok (.ldaIndX 0xFF, []) ∧
    decode [0xB6, 0xF0] = .ok (.ldxZpY 0xF0, []) ∧ decode [0xBC, 0xFF, 0xFF] = .ok (.ldyAbsX 0xFFFF, []) :=
  ⟨rfl, rfl, rfl, rfl⟩
theorem test_decode_stores :
    decode [0x8D, 0x00, 0x02] = .ok (.staAbs 0x0200, []) ∧ decode [0x91, 0x10] = .ok (.staIndY 0x10, []) ∧
    decode [0x96, 0x10] = .ok (.stxZpY 0x10, []) ∧ decode [0x94, 0x10] = .ok (.styZpX 0x10, []) :=
  ⟨rfl, rfl, rfl, rfl⟩
theorem test_decode_transfers :
    decode [0xAA] = .ok (.tax, []) ∧ decode [0xA8] = .ok (.tay, []) ∧ decode [0x8A] = .ok (.txa, []) ∧
    decode [0x98] = .ok (.tya, []) ∧ decode [0xBA] = .ok (.tsx, []) ∧ decode [0x9A] = .ok (.txs, []) :=
  ⟨rfl, rfl, rfl, rfl, rfl, rfl⟩
theorem test_decode_arithmetic :
    decode [0x69, 0xC4] = .ok (.adcImm 0xC4, []) ∧ decode [0xF1, 0x10] = .ok (.sbcIndY 0x10, []) ∧
    decode [0x39, 0x34, 0x12] = .ok (.andAbsY 0x1234, []) ∧ decode [0x15, 0x10] = .ok (.oraZpX 0x10, []) ∧
    decode [0x41, 0x10] = .ok (.eorIndX 0x10, []) ∧ decode [0xD9, 0x34, 0x12] = .ok (.cmpAbsY 0x1234, []) ∧
    decode [0xE4, 0x10] = .ok (.cpxZp 0x10, []) ∧ decode [0xC0, 0x80] = .ok (.cpyImm 0x80, []) ∧
    decode [0x2C, 0x02, 0x20] = .ok (.bitAbs 0x2002, []) ∧ decode [0xFE, 0x34, 0x12] = .ok (.incAbsX 0x1234, []) ∧
    decode [0xC6, 0x10] = .ok (.decZp 0x10, []) ∧ decode [0xCA] = .ok (.dex, []) :=
  ⟨rfl, rfl, rfl, rfl, rfl, rfl, rfl, rfl, rfl, rfl, rfl, rfl⟩
theorem test_decode_shifts :
    decode [0x0A] = .ok (.aslAcc, []) ∧ decode [0x5E, 0x34, 0x12] = .ok (.lsrAbsX 0x1234, []) ∧
    decode [0x36, 0x10] = .ok (.rolZpX 0x10, []) ∧ decode [0x6E, 0x34, 0x12] = .ok (.rorAbs 0x1234, []) :=
  ⟨rfl, rfl, rfl, rfl⟩
theorem test_decode_stack_and_flags :
    decode [0x48] = .ok (.pha, []) ∧ decode [0x68] = .ok (.pla, []) ∧ decode [0x08] = .ok (.php, []) ∧
    decode [0x28] = .ok (.plp, []) ∧ decode [0xB8] = .ok (.clv, []) ∧ decode [0xEA] = .ok (.nop, []) :=
  ⟨rfl, rfl, rfl, rfl, rfl, rfl⟩
theorem test_decode_control :
    decode [0xD0, 0xFA] = .ok (.bne 0xFA, []) ∧ decode [0x70, 0x7F] = .ok (.bvs 0x7F, []) ∧
    decode [0x4C, 0x00, 0xC0] = .ok (.jmpAbs 0xC000, []) ∧ decode [0x6C, 0xFF, 0x10] = .ok (.jmpInd 0x10FF, []) ∧
    decode [0x20, 0x00, 0x90] = .ok (.jsr 0x9000, []) ∧ decode [0x60] = .ok (.rts, []) ∧
    decode [0x00, 0x07] = .ok (.brk, [0x07]) ∧ decode [0x40] = .ok (.rti, []) :=
  ⟨rfl, rfl, rfl, rfl, rfl, rfl, rfl, rfl⟩
/-- $89 would be `STA #`; $80 an undocumented NOP (R157, R173, R271). -/
theorem test_decode_rejects_unknown :
    decode [0x89, 0x01] = .error (.unknownOpcode 0x89) ∧ decode [0x80, 0x01] = .error (.unknownOpcode 0x80) ∧
    decode [0xAD, 0x00] = .error (.operandsMissing 0xAD) ∧ decode [] = .error .noBytes :=
  ⟨rfl, rfl, rfl, rfl⟩
theorem test_decode_table_word : decodeTableWord 24 0x0200AD = some (.ldaAbs 0x0200) := rfl
theorem test_withFetchWord_runs :
    shows (step (State.reset.withFetchWord 16 0x80A9)) (fun t => (t.a, t.pc)) = some (0x80, 0x0002) := by decide

/-! ## Loads, stores and transfers (the examples of R170 to R181) -/

theorem test_lda_example : shows (run [0xA9, 0x80] fresh) (fun t => (t.a, t.p)) = some (0x80, 0xB4) := by decide
/-- R170: `LDA ($FF,X)` with X = 0 takes its pointer from $00FF and $0000. -/
theorem test_lda_pointer_wraps :
    shows (run [0xA1, 0xFF] (poke [(0xFF, 0x34), (0x00, 0x02), (0x0234, 0x5A)] fresh)) (·.a) = some 0x5A := by decide
theorem test_ldx_example : shows (run [0xA2, 0x00] fresh) (fun t => (t.x, t.p)) = some (0x00, 0x36) := by decide
theorem test_ldx_zero_page_wraps :
    shows (run [0xB6, 0xF0] (poke [(0x10, 0x77)] { fresh with y := 0x20 })) (·.x) = some 0x77 := by decide
theorem test_ldy_example : shows (run [0xA0, 0xFF] fresh) (fun t => (t.y, t.p)) = some (0xFF, 0xB4) := by decide
theorem test_ldy_absolute_wraps :
    shows (run [0xBC, 0xFF, 0xFF] (poke [(0, 0x66)] { fresh with x := 1 })) (·.y) = some 0x66 := by decide
theorem test_sta_example :
    shows (run [0x8D, 0x00, 0x02] { fresh with a := 0x01 }) (fun t => (t.ram.read 0x200, t.p, t.cycles)) =
      some (0x01, 0x34, 4) := by decide
theorem test_sta_nrom_faults :
    faultOf (run [0x8D, 0x00, 0x80] { fresh with a := 0x07 }) = some (.unsupportedBankSwitch 0x8000 0x07) := by decide
theorem test_stx_example : shows (run [0x86, 0x10] { fresh with x := 0x42 }) (·.ram.read 0x10) = some 0x42 := by decide
theorem test_sty_example :
    shows (run [0x8C, 0x00, 0x03] { fresh with y := 0x07 }) (·.ram.read 0x300) = some 0x07 := by decide
theorem test_tax_example : shows (run [0xAA] { fresh with a := 0xC0 }) (fun t => (t.x, t.p)) = some (0xC0, 0xB4) := by decide
theorem test_tay_example : shows (run [0xA8] fresh) (fun t => (t.y, t.p)) = some (0x00, 0x36) := by decide
theorem test_txa_example : shows (run [0x8A] { fresh with x := 0x7F }) (fun t => (t.a, t.p)) = some (0x7F, 0x34) := by decide
theorem test_tya_example : shows (run [0x98] { fresh with y := 0x80 }) (fun t => (t.a, t.p)) = some (0x80, 0xB4) := by decide
theorem test_tsx_example : shows (run [0xBA] fresh) (fun t => (t.x, t.p)) = some (0xFD, 0xB4) := by decide
theorem test_txs_example : shows (run [0x9A] { fresh with x := 0x00 }) (fun t => (t.sp, t.p)) = some (0x00, 0x34) := by decide

/-! ## Arithmetic and logic (R202 to R217) -/

theorem test_adc_example :
    shows (run [0x69, 0xC4] { fresh with a := 0xC0 }) (fun t => (t.a, t.p)) = some (0x84, 0xB5) := by decide
theorem test_adc_overflow_in_decimal :
    shows (run [0x69, 0x01] { fresh with a := 0x7F, p := 0x3C }) (fun t => (t.a, t.p)) = some (0x80, 0xFC) := by decide
theorem test_sbc_example :
    shows (run [0xE9, 0x03] { fresh with a := 0x05, p := 0x35 }) (fun t => (t.a, t.p)) = some (0x02, 0x35) := by decide
theorem test_sbc_overflow :
    shows (run [0xE9, 0xB0] { fresh with a := 0x50, p := 0x35 }) (fun t => (t.a, t.p)) = some (0xA0, 0xF4) := by decide
theorem test_and_example :
    shows (run [0x29, 0x3C] { fresh with a := 0xF0 }) (fun t => (t.a, t.p)) = some (0x30, 0x34) := by decide
theorem test_ora_example :
    shows (run [0x09, 0x80] { fresh with a := 0x01 }) (fun t => (t.a, t.p)) = some (0x81, 0xB4) := by decide
theorem test_eor_example :
    shows (run [0x49, 0xFF] { fresh with a := 0xAA }) (fun t => (t.a, t.p)) = some (0x55, 0x34) := by decide
theorem test_cmp_example :
    shows (run [0xC9, 0x08] { fresh with a := 0x10 }) (fun t => (t.a, t.p)) = some (0x10, 0x35) := by decide
/-- R207, C4: r = $50, m = $B0 gives N = 1. -/
theorem test_cmp_sign_of_difference :
    shows (run [0xC9, 0xB0] { fresh with a := 0x50 }) (·.p) = some 0xB4 := by decide
theorem test_cpx_example : shows (run [0xE0, 0x03] { fresh with x := 0x03 }) (·.p) = some 0x37 := by decide
theorem test_cpy_example : shows (run [0xC0, 0x80] fresh) (·.p) = some 0xB4 := by decide
theorem test_bit_example :
    shows (run [0x24, 0x10] (poke [(0x10, 0xC0)] { fresh with a := 0x01 })) (fun t => (t.a, t.p)) =
      some (0x01, 0xF6) := by decide
/-- R211: `BIT $2002` clears the vblank flag and leaves its old value in N. -/
theorem test_bit_reads_status_once :
    shows (run [0x2C, 0x02, 0x20] { fresh with ppu := { fresh.ppu with vblank := true } })
      (fun t => (t.p, t.ppu.vblank)) = some (0xB6, false) := by decide
theorem test_inc_example :
    shows (run [0xE6, 0x10] (poke [(0x10, 0x7F)] fresh)) (fun t => (t.ram.read 0x10, t.p)) = some (0x80, 0xB4) := by decide
theorem test_dec_example :
    shows (run [0xCE, 0x00, 0x03] (poke [(0x300, 0x01)] fresh)) (fun t => (t.ram.read 0x300, t.p)) =
      some (0x00, 0x36) := by decide
theorem test_inx_example : shows (run [0xE8] { fresh with x := 0xC0 }) (fun t => (t.x, t.p)) = some (0xC1, 0xB4) := by decide
theorem test_iny_wraps : shows (run [0xC8] { fresh with y := 0xFF }) (fun t => (t.y, t.p)) = some (0x00, 0x36) := by decide
theorem test_dex_wraps : shows (run [0xCA] fresh) (fun t => (t.x, t.p)) = some (0xFF, 0xB4) := by decide
theorem test_dey_example : shows (run [0x88] fresh) (fun t => (t.y, t.p)) = some (0xFF, 0xB4) := by decide

/-! ## Shifts and rotates (R241 to R244) -/

theorem test_asl_example : shows (run [0x0A] { fresh with a := 0x81 }) (fun t => (t.a, t.p)) = some (0x02, 0x35) := by decide
theorem test_asl_memory :
    shows (run [0x06, 0x10] (poke [(0x10, 0x80)] fresh)) (fun t => (t.ram.read 0x10, t.p)) = some (0x00, 0x37) := by decide
theorem test_lsr_example : shows (run [0x4A] { fresh with a := 0x81 }) (fun t => (t.a, t.p)) = some (0x40, 0x35) := by decide
theorem test_rol_example :
    shows (run [0x2A] { fresh with a := 0x81, p := 0x35 }) (fun t => (t.a, t.p)) = some (0x03, 0x35) := by decide
theorem test_ror_example : shows (run [0x6A] { fresh with a := 0x81 }) (fun t => (t.a, t.p)) = some (0x40, 0x35) := by decide
theorem test_ror_carry_in :
    shows (run [0x6A] { fresh with p := 0x35 }) (fun t => (t.a, t.p)) = some (0x80, 0xB4) := by decide

/-! ## Stack and flags (R260 to R271) -/

theorem test_pha_example :
    shows (run [0x48] { fresh with a := 0x12 }) (fun t => (t.ram.read 0x1FD, t.sp)) = some (0x12, 0xFC) := by decide
theorem test_pha_wraps :
    shows (run [0x48] { fresh with a := 0x12, sp := 0x00 }) (fun t => (t.ram.read 0x100, t.sp)) =
      some (0x12, 0xFF) := by decide
theorem test_pla_example :
    shows (run [0x68] (poke [(0x1FD, 0x80)] { fresh with sp := 0xFC })) (fun t => (t.a, t.p, t.sp)) =
      some (0x80, 0xB4, 0xFD) := by decide
theorem test_php_forces_b : shows (run [0x08] { fresh with p := 0x00 }) (fun t => (t.ram.read 0x1FD, t.p)) =
    some (0x30, 0x00) := by decide
theorem test_plp_example :
    shows (run [0x28] (poke [(0x1FE, 0xC3)] fresh)) (·.p) = some 0xF3 := by decide
theorem test_plp_keeps_b : shows (run [0x28] (poke [(0x1FE, 0x00)] fresh)) (·.p) = some 0x30 := by decide
theorem test_clc_example : shows (run [0x18] { fresh with p := 0x35 }) (·.p) = some 0x34 := by decide
theorem test_sec_example : shows (run [0x38] fresh) (·.p) = some 0x35 := by decide
theorem test_cli_example : shows (run [0x58] fresh) (·.p) = some 0x30 := by decide
theorem test_sei_example : shows (run [0x78] { fresh with p := 0x30 }) (·.p) = some 0x34 := by decide
theorem test_clv_example : shows (run [0xB8] { fresh with p := 0x74 }) (·.p) = some 0x34 := by decide
theorem test_cld_example : shows (run [0xD8] { fresh with p := 0x3C }) (·.p) = some 0x34 := by decide
theorem test_sed_example : shows (run [0xF8] fresh) (·.p) = some 0x3C := by decide
theorem test_nop_advances : shows (run [0xEA] fresh) (fun t => (t.pc, t.p, t.cycles, t.ppu.dot)) =
    some (0x0401, 0x34, 2, 6) := by decide

/-! ## Control (R291 to R303) -/

theorem test_bcc_example : shows (exec (.bcc 0x10) { fresh with pc := 0x8000 }) (·.pc) = some 0x8012 := by decide
theorem test_bcs_example : shows (exec (.bcs 0x10) { fresh with pc := 0x8000 }) (·.pc) = some 0x8002 := by decide
theorem test_beq_example : shows (exec (.beq 0x20) { fresh with pc := 0x80F0, p := 0x36 }) (·.pc) = some 0x8112 := by decide
/-- R456: taken into another page costs 2 more. -/
theorem test_beq_page_cost : cycleCost (.beq 0x20) { fresh with pc := 0x80F0, p := 0x36 } = 4 := by decide
theorem test_bne_example : shows (exec (.bne 0xFA) { fresh with pc := 0x8005 }) (·.pc) = some 0x8001 := by decide
theorem test_bmi_example : shows (exec (.bmi 0x80) { fresh with pc := 0xC000, p := 0xB4 }) (·.pc) = some 0xBF82 := by decide
theorem test_bpl_example : shows (exec (.bpl 0xFE) { fresh with pc := 0x8000 }) (·.pc) = some 0x8000 := by decide
theorem test_bvc_example : shows (exec (.bvc 0x05) { fresh with pc := 0x8000, p := 0x74 }) (·.pc) = some 0x8002 := by decide
theorem test_bvs_example : shows (exec (.bvs 0x7F) { fresh with pc := 0xFFF0, p := 0x74 }) (·.pc) = some 0x0071 := by decide
theorem test_jmp_example : shows (run [0x4C, 0x00, 0xC0] fresh) (·.pc) = some 0xC000 := by decide
/-- R299: `JMP ($10FF)` reads its low byte at $10FF and its high byte at $1000 (mirrors of $00FF and $0000). -/
theorem test_jmp_indirect_page_wrap :
    shows (run [0x6C, 0xFF, 0x10] (poke [(0xFF, 0x34), (0x00, 0x12), (0x100, 0x56)] fresh)) (·.pc) = some 0x1234 := by decide
theorem test_jsr_example :
    shows (exec (.jsr 0x9000) { fresh with pc := 0x8000 })
      (fun t => (t.ram.read 0x1FD, t.ram.read 0x1FC, t.sp, t.pc)) = some (0x80, 0x02, 0xFB, 0x9000) := by decide
theorem test_rts_example :
    shows (exec .rts (poke [(0x1FC, 0x02), (0x1FD, 0x80)] { fresh with sp := 0xFB })) (fun t => (t.pc, t.sp)) =
      some (0x8003, 0xFD) := by decide

/-- A cartridge with the vectors NMI $9100 and BRK $9000. -/
def withVectors : Cartridge :=
  .nes { nesOf 0 32768 8192 with prg := { size := 32768, cells := [(0x7FFB, 0x91), (0x7FFF, 0x90)] } }

theorem test_brk_example :
    shows (exec .brk { fresh with pc := 0x8000, cart := withVectors })
      (fun t => (t.ram.read 0x1FD, t.ram.read 0x1FC, t.ram.read 0x1FB, t.sp, t.p, t.pc)) =
      some (0x80, 0x02, 0x34, 0xFA, 0x34, 0x9000) := by decide
theorem test_rti_example :
    shows (exec .rti (poke [(0x1FB, 0x34), (0x1FC, 0x02), (0x1FD, 0x80)] { fresh with sp := 0xFA, pc := 0x9000 }))
      (fun t => (t.p, t.pc, t.sp)) = some (0x34, 0x8002, 0xFD) := by decide
/-- R329: the NMI entry pushes PC itself and P with B4 = 0, and costs 7 cycles. -/
theorem test_nmi_entry :
    shows (nmiEntry { fresh with cart := withVectors, nmiPending := true })
      (fun t => (t.ram.read 0x1FD, t.ram.read 0x1FC, t.ram.read 0x1FB, t.pc, t.nmiPending, t.cycles)) =
      some (0x04, 0x00, 0x24, 0x9100, false, 7) := by decide

/-! ## Faults and refusals -/

theorem test_unknown_opcode_faults : faultOf (run [0x02] fresh) = some (.unknownOpcode 0x0400 0x02) := by decide
theorem test_fetch_outside_faults : faultOf (step { fresh with pc := 0x2000 }) = some (.pcOutOfRange 0x2000) := by decide
theorem test_unmapped_faults : faultOf (run [0xAD, 0x18, 0x40] fresh) = some (.accessFault 0x4018 .read) := by decide
theorem test_oam_dma_refused : refusalOf (run [0x8D, 0x14, 0x40] fresh) = some (.unmodelled 0x4014 .write) := by decide

/-! ## Devices -/

/-- R362: the first vblank is set by the step during which 3n reaches 82182. -/
theorem test_vblank_sets :
    ((ppuRun 1 { fresh.ppu with scanline := 241, dot := 0, ctrl := 0x80 }).ppu.vblank,
      (ppuRun 1 { fresh.ppu with scanline := 241, dot := 0, ctrl := 0x80 }).nmi) = (true, true) := by decide
theorem test_vblank_clears : (ppuRun 1 { fresh.ppu with scanline := 260, dot := 339, vblank := true }).ppu.vblank = false := by
  decide
/-- R389: index 1 is 254; the load is ignored while the channel is disabled. -/
theorem test_length_load :
    (writeChannel 3 0x08 { ApuState.reset with pulse1 := { PulseState.reset with enabled := true } }).pulse1.len = 254 ∧
    (writeChannel 3 0x08 ApuState.reset).pulse1.len = 0 := by decide
/-- R408: from 1 with mode 0, bit 0 is fed back to bit 14. -/
theorem test_lfsr_step : stepLfsr false 1 = 0x4000 := by decide
/-- R385: the tick falls in the cycle in which the divider reaches 7457. -/
theorem test_frame_tick : (apuRun 1 { ApuState.reset with fsDivider := 7456 }).fsStep = 1 := by decide
/-- R387 and C5: the reset of 4-step mode clocks a half frame. -/
theorem test_frame_reset_half :
    (apuRun 1 { ApuState.reset with resetCountdown := 1, pulse1 := { PulseState.reset with len := 2 } }).pulse1.len = 1 := by
  decide
/-- R410: all outputs at 15, as a binary32 word. -/
theorem test_mixer_full : toBinary32 (mixerValue 15 15 15 15) = 0x3F21BE76 := by decide
theorem test_mixer_silent : mixerSample ApuState.reset = 0 := by decide
/-- R113: five writes of 1, 0, 0, 1, 0 to $E000 commit 01001 to the PRG bank register. -/
theorem test_mmc1_five_writes :
    (match mmc1Writes (nesOf 1 262144 0) [(0xE000, 1), (0xE000, 0), (0xE000, 0), (0xE000, 1), (0xE000, 0)]
        (Mmc1.reset, Windows.none) with
      | .next rw => some (rw.1.prgBank, rw.2.prgLo)
      | .fault _ => none
      | .refused _ => none) = some (0b01001, 9 * 16384) := by decide
/-- R120: a bank past the image faults with its offset. -/
theorem test_uxrom_out_of_range :
    faultOf (mapperWrite (nesOf 2 32768 0) 0x8000 2 (.uxrom 0) Windows.none) = some (.bankOutOfRange 32768) := by decide
/-- R102: the exponent form, 2^(lo[7:2]) * (lo[1:0] * 2 + 1). -/
theorem test_size_exponent : imageSize 0b00111001 0xF 16384 = 2 ^ 14 * 3 := by decide
/-- R453: without a bank prefix, 11 bytes. -/
theorem test_nsf_bootstrap :
    bootProgram (nsfOf 0) 4 = [0xA9, 4, 0x20, 0x23, 0x81, 0x20, 0x56, 0x84, 0x4C, 0x08, 0x50] := by decide
theorem test_powerUp_is_reset : powerUp State.reset Cartridge.blank 0 Draws.zero = .next State.reset := rfl

/-! ## Witnesses: the hypotheses of the statements are met, clause by clause -/

/-- Some of the forms reads an address that is readable, one that faults and one that is refused. -/
def ReadsMet (forms : Byte → Addr → State → List MemForm) : Prop :=
  (∃ f ∈ forms 0x10 0x1FFF fresh, readable fresh f.ea = true) ∧
  (∃ f ∈ forms 0x10 0x4018 fresh, memRead f.ea fresh = .fault (.accessFault 0x4018 .read)) ∧
  (∃ f ∈ forms 0x10 0x4013 fresh, memRead f.ea fresh = .refused (.unmodelled 0x4013 .read))

theorem readsMet {forms : Byte → Addr → State → List MemForm} (op : Byte) (i : Addr → Instr)
    (h : ∀ w, (⟨op, i w, eaAbs w, 3⟩ : MemForm) ∈ forms 0x10 w fresh) : ReadsMet forms :=
  ⟨⟨_, h _, rfl⟩, ⟨_, h _, rfl⟩, ⟨_, h _, rfl⟩⟩

/-- Some of the forms stores to an address that takes the byte, one that faults and one that is refused. -/
def StoresMet (forms : Byte → Addr → State → List MemForm) : Prop :=
  (∃ f ∈ forms 0x10 0x1FFF fresh, writable fresh f.ea 0 = true) ∧
  (∃ f ∈ forms 0x10 0xFFFF fresh, memWrite f.ea 0 fresh = .fault (.unsupportedBankSwitch 0xFFFF 0)) ∧
  (∃ f ∈ forms 0x10 0x4014 fresh, memWrite f.ea 0 fresh = .refused (.unmodelled 0x4014 .write))

theorem storesMet {forms : Byte → Addr → State → List MemForm} (op : Byte) (i : Addr → Instr)
    (h : ∀ w, (⟨op, i w, eaAbs w, 3⟩ : MemForm) ∈ forms 0x10 w fresh) : StoresMet forms :=
  ⟨⟨_, h _, rfl⟩, ⟨_, h _, rfl⟩, ⟨_, h _, rfl⟩⟩

/-- Some of the forms reads and writes RAM, one reads ROM that takes no write, and one each stops at its read. -/
def ModifiesMet (forms : Byte → Addr → State → List MemForm) : Prop :=
  (∃ f ∈ forms 0x10 0x1FFF fresh, readable fresh f.ea = true ∧ ∀ v, writable fresh f.ea v = true) ∧
  (∃ f ∈ forms 0x10 0x8000 fresh, readable fresh f.ea = true ∧
    ∀ v, memWrite f.ea v fresh = .fault (.unsupportedBankSwitch 0x8000 v)) ∧
  (∃ f ∈ forms 0x10 0x4018 fresh, memRead f.ea fresh = .fault (.accessFault 0x4018 .read)) ∧
  (∃ f ∈ forms 0x10 0x4013 fresh, memRead f.ea fresh = .refused (.unmodelled 0x4013 .read))

theorem modifiesMet {forms : Byte → Addr → State → List MemForm} (op : Byte) (i : Addr → Instr)
    (h : ∀ w, (⟨op, i w, eaAbs w, 3⟩ : MemForm) ∈ forms 0x10 w fresh) : ModifiesMet forms :=
  ⟨⟨_, h _, rfl, fun _ => rfl⟩, ⟨_, h _, rfl, fun _ => rfl⟩, ⟨_, h _, rfl⟩, ⟨_, h _, rfl⟩⟩

theorem test_witness_LoadsFillTheirRegister : ReadsMet ldaForms ∧ ReadsMet ldxForms ∧ ReadsMet ldyForms :=
  ⟨readsMet 0xAD .ldaAbs (by simp [ldaForms]), readsMet 0xAE .ldxAbs (by simp [ldxForms]),
    readsMet 0xAC .ldyAbs (by simp [ldyForms])⟩
theorem test_witness_StoresWriteTheirRegister : StoresMet staForms ∧ StoresMet stxForms ∧ StoresMet styForms :=
  ⟨storesMet 0x8D .staAbs (by simp [staForms]), storesMet 0x8E .stxAbs (by simp [stxForms]),
    storesMet 0x8C .styAbs (by simp [styForms])⟩
theorem test_witness_AdcAddsWithCarry : ReadsMet adcForms := readsMet 0x6D .adcAbs (by simp [adcForms])
theorem test_witness_SbcSubtractsWithBorrow : ReadsMet sbcForms := readsMet 0xED .sbcAbs (by simp [sbcForms])
theorem test_witness_LogicCombinesBits : ReadsMet andForms ∧ ReadsMet oraForms ∧ ReadsMet eorForms :=
  ⟨readsMet 0x2D .andAbs (by simp [andForms]), readsMet 0x0D .oraAbs (by simp [oraForms]),
    readsMet 0x4D .eorAbs (by simp [eorForms])⟩
theorem test_witness_ComparesAndBitTest :
    ReadsMet cmpForms ∧ ReadsMet cpxForms ∧ ReadsMet cpyForms ∧ ReadsMet bitForms :=
  ⟨readsMet 0xCD .cmpAbs (by simp [cmpForms]), readsMet 0xEC .cpxAbs (by simp [cpxForms]),
    readsMet 0xCC .cpyAbs (by simp [cpyForms]), readsMet 0x2C .bitAbs (by simp [bitForms])⟩
theorem test_witness_IncrementsAndDecrements : ModifiesMet incForms ∧ ModifiesMet decForms :=
  ⟨modifiesMet 0xEE .incAbs (by simp [incForms]), modifiesMet 0xCE .decAbs (by simp [decForms])⟩
theorem test_witness_ShiftsAndRotates :
    ModifiesMet aslForms ∧ ModifiesMet lsrForms ∧ ModifiesMet rolForms ∧ ModifiesMet rorForms :=
  ⟨modifiesMet 0x0E .aslAbs (by simp [aslForms]), modifiesMet 0x4E .lsrAbs (by simp [lsrForms]),
    modifiesMet 0x2E .rolAbs (by simp [rolForms]), modifiesMet 0x6E .rorAbs (by simp [rorForms])⟩
/-- The default table, and an instruction that turns V from 0 to 1. -/
theorem test_witness_StackAndFlagInstructions :
    fresh.params.cycleTable = none ∧ fresh.p.getLsbD 6 = false ∧
    shows (exec (.adcImm 0x01) { fresh with a := 0x7F }) (·.p.getLsbD 6) = some true := by decide
theorem test_witness_StackPushesAndPulls :
    fresh.ram.wf = true ∧ (List.replicate 256 (0xAA : Byte)).length ≤ 256 := ⟨rfl, Nat.le_of_eq List.length_replicate⟩
/-- Both pointer bytes readable; the first and the second read that faults; the first and the second that is refused. -/
theorem test_witness_JumpsAndSubroutines :
    (readable fresh 0x1FFF = true ∧ readable fresh (highPointer fresh 0x1FFF) = true) ∧
    faultOf (memRead 0x40FF fresh) = some (.accessFault 0x40FF .read) ∧
    refusalOf (memRead 0x2000 fresh) = some (.unmodelled 0x2000 .read) ∧
    (memRead 0x4015 fresh = .next (0, fresh) ∧
      memRead (highPointer nsfState 0x4017) nsfState = .fault (.accessFault 0x4018 .read) ∧
      readable nsfState 0x4017 = true) ∧
    (readable fresh 0x2002 = true ∧
      memRead (highPointer fresh 0x2002) fresh = .refused (.unmodelled 0x2003 .read)) :=
  ⟨⟨rfl, rfl⟩, rfl, rfl, ⟨rfl, rfl, rfl⟩, ⟨rfl, rfl⟩⟩
/-- Both vector bytes there; the low one missing; the high one missing. -/
theorem test_witness_BrkAndRti :
    (cartByte fresh 0xFFFE = some 0 ∧ cartByte fresh 0xFFFF = some 0) ∧ cartByte (nsfEnding 0x0E) 0xFFFE = none ∧
    (cartByte (nsfEnding 0x0F) 0xFFFE = some 0 ∧ cartByte (nsfEnding 0x0F) 0xFFFF = none) ∧ fresh.isNsf = false :=
  ⟨⟨rfl, rfl⟩, rfl, ⟨rfl, rfl⟩, rfl⟩
theorem test_witness_NmiEntrySavesAndJumps :
    (cartByte fresh 0xFFFA = some 0 ∧ cartByte fresh 0xFFFB = some 0) ∧ cartByte (nsfEnding 0x0A) 0xFFFA = none ∧
    (cartByte (nsfEnding 0x0B) 0xFFFA = some 0 ∧ cartByte (nsfEnding 0x0B) 0xFFFB = none) ∧
    ({ fresh with nmiPending := true }.run = .running ∧ { fresh with nmiPending := true }.hostQueue = []) ∧
    { fresh with nmiPending := true, hostQueue := [.grant 0xFF, .withhold] }.hostQueue = .grant 0xFF :: [.withhold] :=
  ⟨⟨rfl, rfl⟩, rfl, ⟨rfl, rfl⟩, ⟨rfl, rfl⟩, rfl⟩
theorem test_witness_ReturnsUndoEntries :
    fresh.ram.wf = true ∧ (∃ t, exec (.jsr 0xFFFF) fresh = .next t) ∧ (∃ t, nmiEntry fresh = .next t) ∧
    ∃ t, exec .brk fresh = .next t :=
  ⟨rfl, ⟨_, rfl⟩, ⟨_, rfl⟩, ⟨_, rfl⟩⟩
theorem test_witness_EncodeOfDecode : decode [0x6C, 0xFF, 0xFF, 0x01] = .ok (.jmpInd 0xFFFF, [0x01]) := rfl
/-- An unknown opcode at PC with no byte after it, and opcodes that are known. -/
theorem test_witness_UnknownOpcodesFault :
    (0xFF ∈ unknownOpcodes ∧ codeByte (poke [(0x7FF, 0xFF)] { fresh with pc := 0x1FFF }) 0x1FFF = some 0xFF) ∧
    0x00 ∉ unknownOpcodes ∧ 0xFE ∉ unknownOpcodes := by decide
/-- The edges of the code regions. -/
theorem test_witness_FetchAndItsFaults :
    codeByte fresh 0x1FFF = some 0 ∧ codeByte fresh 0x2000 = none ∧ codeByte fresh 0x4FFF = none ∧
    codeByte fresh 0x5000 = none ∧ codeByte nsfState 0x5000 = some 0xA9 ∧ codeByte nsfState 0x50FF = some 0 ∧
    codeByte nsfState 0x5100 = none ∧ codeByte fresh 0x5FFF = none ∧ codeByte fresh 0x6000 = none ∧
    codeByte { fresh with prgRam := some [(0x1FFF, 0x07)] } 0x7FFF = some 0x07 ∧ codeByte fresh 0x8000 = some 0 ∧
    codeByte nsfState 0x8004 = none := by decide
/-- A three-byte instruction whose second byte lies outside the code regions. -/
theorem test_witness_FirstMissingByteFaults :
    standsAtPc (.ldaAbs 0x0200) 1 (poke [(0x7FF, 0xAD)] { fresh with pc := 0x1FFF }) ∧
    codeByte (poke [(0x7FF, 0xAD)] { fresh with pc := 0x1FFF }) 0x2000 = none :=
  ⟨fun k hk => by cases k with | zero => rfl | succ k => omega, rfl⟩
/-- A NOP at PC, with no move of the host and with a grant. -/
theorem test_witness_StepRunsTheDecodedInstruction :
    fresh.run = .running ∧ fresh.nmiPending = false ∧ standsAtPc .nop 1 (poke [(0x400, 0xEA)] fresh) ∧
    fresh.hostQueue = [] ∧ { fresh with hostQueue := [.grant 0xFF] }.hostQueue = .grant 0xFF :: [] :=
  ⟨rfl, rfl, fun k hk => by cases k with | zero => rfl | succ k => omega, rfl, rfl⟩
theorem test_witness_CycleCostsWithPenalties : fresh.params.cycleTable = none := rfl
/-- A completing instruction that writes no register, none that is named, and no flag; the frame's premises one by one. -/
theorem test_witness_RegistersFlagsAndSurroundingsFrame :
    (∃ t, exec (.staAbs 0x1FFF) fresh = .next t) ∧ writesA (.staAbs 0x1FFF) = false ∧ writesX (.staAbs 0x1FFF) = false ∧
    writesY (.staAbs 0x1FFF) = false ∧ writesSp (.staAbs 0x1FFF) = false ∧ setsPc (.staAbs 0x1FFF) = false :=
  ⟨⟨_, rfl⟩, rfl, rfl, rfl, rfl, rfl⟩
/-- No store; a store to RAM's last byte and one to a mapper; pushes. -/
theorem test_witness_MemoryFrame :
    (storeAddr (.ldaAbs 0x1FFF) fresh = none ∧ pushCount .lda = 0 ∧ ∃ t, exec (.ldaAbs 0x1FFF) fresh = .next t) ∧
    (storeAddr (.staAbs 0x1FFF) fresh = some 0x1FFF ∧ ∃ t, exec (.staAbs 0x1FFF) fresh = .next t) ∧
    (movesWindows (regionOf nsfState 0x5FFF) = true ∧ ∃ t, exec (.staAbs 0x5FFF) nsfState = .next t) ∧
    (0 < pushCount .brk ∧ ∃ t, exec .brk fresh = .next t) :=
  ⟨⟨rfl, rfl, _, rfl⟩, ⟨rfl, _, rfl⟩, ⟨rfl, _, rfl⟩, ⟨by decide, _, rfl⟩⟩
theorem test_witness_DevicesFrame :
    (operandAddr .nop fresh = none ∧ Instr.mode .nop ≠ .indirect ∧ ∃ t, exec .nop fresh = .next t) ∧
    (Instr.mode (.jmpInd 0x2002) = .indirect ∧ ∃ t, exec (.jmpInd 0x1FFF) fresh = .next t) ∧
    (operandAddr (.ldaAbs 0x2002) fresh = some 0x2002 ∧ isReading .lda = true ∧
      ∃ t, exec (.ldaAbs 0x2002) fresh = .next t) ∧
    (operandAddr (.staAbs 0x4017) fresh = some 0x4017 ∧ isStore .sta = true ∧
      ∃ t, exec (.staAbs 0x4017) fresh = .next t) ∧
    (operandAddr (.incAbs 0x4015) fresh = some 0x4015 ∧ isModify .inc = true ∧
      ∃ t, exec (.incAbs 0x4015) fresh = .next t) :=
  ⟨⟨rfl, by decide, _, rfl⟩, ⟨rfl, _, rfl⟩, ⟨rfl, rfl, _, rfl⟩, ⟨rfl, rfl, _, rfl⟩, ⟨rfl, rfl, _, rfl⟩⟩
/-- The last byte of RAM; the pointer at the end of RAM, whose high byte stays in its page; BRK in video mode. -/
theorem test_witness_EveryInstructionCompletesOnRam :
    (operandAddr (.incAbs 0x1FFF) fresh = some 0x1FFF ∧ (0x1FFF : Addr).toNat < 0x2000) ∧
    (highPointer fresh 0x1FFF).toNat < 0x2000 ∧ fresh.isNsf = false := by decide
/-- The rows of the map at their edges. -/
theorem test_witness_AddressMap :
    fresh.cart = .nes (nesOf 0 32768 8192) ∧ regionOf fresh 0x1FFF = .ram 0x7FF ∧ regionOf fresh 0x4013 = .apuChannel 0x13 ∧
    regionOf fresh 0x4014 = .oamDma ∧ regionOf fresh 0x4015 = .apuStatus ∧ regionOf fresh 0x4017 = .pad2 ∧
    regionOf fresh 0x4018 = .unmapped ∧ regionOf fresh 0x5FFF = .unmapped ∧
    (fresh.prgRam = none ∧ regionOf fresh 0x6000 = .unmapped) ∧
    regionOf { fresh with prgRam := some [] } 0x7FFF = .prgRam 0x1FFF ∧ regionOf fresh 0x8000 = .cart ∧
    regionOf fresh 0xFFFF = .cart := by decide
theorem test_witness_NsfMap :
    nsfState.cart = .nsf (nsfOf 0) ∧ regionOf nsfState 0x2000 = .unmapped ∧ regionOf nsfState 0x4014 = .unmapped ∧
    regionOf nsfState 0x4FFF = .unmapped ∧ regionOf nsfState 0x5000 = .boot 0 ∧ regionOf nsfState 0x50FF = .boot 0xFF ∧
    regionOf nsfState 0x4018 = .unmapped ∧ regionOf nsfState 0x5100 = .unmapped ∧ regionOf nsfState 0x5FF7 = .unmapped ∧
    (nsfState.prgRam = none ∧ regionOf nsfState 0x7FFF = .unmapped) ∧
    regionOf { nsfState with prgRam := some [] } 0x6000 = .prgRam 0 ∧ regionOf nsfState 0x5FF8 = .nsfBank 0 ∧ regionOf nsfState 0x5FFF = .nsfBank 7 ∧
    nsfRead (nsfOf 0) nsfState.mapper 0x8003 = some 0x44 ∧ nsfRead (nsfOf 0) nsfState.mapper 0x8004 = none := by decide
theorem test_witness_PpuRegisters :
    fresh.isNsf = false ∧ regionOf fresh 0x2000 = .ppu 0 ∧ regionOf fresh 0x2001 = .ppu 1 ∧
    regionOf fresh 0x3FFA = .ppu 2 ∧ regionOf fresh 0x2003 = .ppu 3 ∧ regionOf fresh 0x3FFF = .ppu 7 := by decide
theorem test_witness_ControllerPort :
    ∃ t, memWrite 0x4016 1 fresh = .next t ∧ ∃ u, memWrite 0x4016 0 t = .next u := ⟨_, rfl, _, rfl⟩
/-- The last register of a channel, with the channel enabled and disabled. -/
theorem test_witness_ApuChannelWrites :
    3 < 4 ∧ PulseState.reset.enabled = false ∧ { PulseState.reset with enabled := true }.enabled = true := by decide
theorem test_witness_ApuControlRegisters :
    (0 < Params.standard.frameResetDelay) ∧ { ApuState.reset with fsMode := true }.fsMode = true ∧
    ApuState.reset.fsMode = false := by decide
theorem test_witness_StoredBytesReadBack :
    fresh.ram.wf = true ∧ (∀ m, ({ fresh with prgRam := some [] } : State).prgRam = some m → m.wf = true) ∧
    (∃ t, memWrite 0x1FFF 1 fresh = .next t) ∧ ∃ t, memWrite 0x7FFF 1 { fresh with prgRam := some [] } = .next t :=
  ⟨rfl, fun m h => by cases h; rfl, ⟨_, rfl⟩, ⟨_, rfl⟩⟩
/-- The first and the last position of the frame. -/
theorem test_witness_DotTicksMoveThePosition :
    inFrame fresh.ppu ∧ inFrame { fresh.ppu with scanline := 261, dot := 340 } := ⟨by constructor <;> decide, by constructor <;> decide⟩
/-- One tick before each of the two events. -/
theorem test_witness_VblankAndNmi :
    arrives 3 vblankStart { fresh.ppu with scanline := 241, dot := 0 } ∧
    arrives 3 vblankEnd { fresh.ppu with scanline := 260, dot := 339 } ∧ ¬ arrives 3 vblankStart fresh.ppu :=
  ⟨⟨1, by decide, by decide, rfl⟩, ⟨3, by decide, by decide, rfl⟩, fun ⟨j, _, h2, h3⟩ => by
    have e : positionAfter j fresh.ppu = j % 89342 := by simp [positionAfter, fresh, State.reset, PpuState.reset]
    rw [e] at h3
    simp only [vblankStart] at h3
    omega⟩
/-- A pulse channel whose next sweep clock writes its period. -/
def sweeping : PulseState := { PulseState.reset with sweepEn := true, sweepShift := 1, period := 8 }

/-- The envelope's, the sweep's and the linear counter's cases: a start, a divider at 0, one above 0; a sweep that hits, one
muted by its period, one muted by its target; a target below 0. -/
theorem test_witness_ApuUnitClocks :
    { Envelope.reset with start := true }.start = true ∧ Envelope.reset.divider = 0 ∧
    0 < { Envelope.reset with divider := 15 }.divider.toNat ∧
    (sweeping.sweepDivider = 0 ∧ sweeping.sweepEn = true ∧ sweeping.sweepShift ≠ 0 ∧ pulseMuted true sweeping = false) ∧
    pulseMuted true { PulseState.reset with period := 7 } = true ∧
    pulseMuted true { PulseState.reset with period := 0x7FF } = true ∧
    targetOf true { PulseState.reset with sweepNeg := true } = -1 ∧
    ({ PulseState.reset with sweepDivider := 7 }.sweepDivider ≠ 0 ∧ PulseState.reset.sweepReload = false) := by decide
theorem test_witness_TimersAndSequencers :
    PulseState.reset.timer = 0 ∧ { PulseState.reset with timer := 0x7FF }.timer ≠ 0 ∧
    (TriangleState.reset.timer = 0 ∧ ¬ (0 < TriangleState.reset.len.toNat)) ∧
    0 < { TriangleState.reset with len := 1, lin := 1 }.lin.toNat ∧ { TriangleState.reset with timer := 1 }.timer ≠ 0 ∧
    NoiseState.reset.timer = 0 ∧ { NoiseState.reset with timer := 2033 }.timer ≠ 0 := by decide
/-- A pulse, a triangle and a noise channel that sound, and each way they are silent. -/
theorem test_witness_ChannelOutputs :
    PulseState.reset.len = 0 ∧ pulseMuted true { PulseState.reset with len := 1, period := 7 } = true ∧
    pulseMuted true { PulseState.reset with len := 1, period := 8 } = false ∧
    (TriangleState.reset.len = 0 ∧ { TriangleState.reset with len := 1 }.lin = 0 ∧
      { TriangleState.reset with len := 1, lin := 1, period := 4 }.period.toNat < 5 ∧
      ¬ { TriangleState.reset with len := 1, lin := 1, period := 5 }.period.toNat < 5) ∧
    NoiseState.reset.lfsr.getLsbD 0 = true ∧ { NoiseState.reset with len := 1, lfsr := 2 }.lfsr.getLsbD 0 = false := by decide
theorem test_witness_FrameSchedule :
    { ApuState.reset with fsStep := 4 }.fsStep < 5 ∧ ApuState.reset.fsMode = false ∧
    { ApuState.reset with fsMode := true }.fsMode = true := by decide
/-- The last count of the divider and the last step; a countdown about to expire and one that is not; both modes; a quarter
frame and a half frame in one cycle. -/
theorem test_witness_FrameSequencerTiming :
    (ApuState.reset.resetCountdown = 0 ∧ { ApuState.reset with fsDivider := 7456 }.fsDivider + 1 = 7457 ∧
      { ApuState.reset with fsMode := true, fsStep := 4 }.fsStep < 5) ∧
    { ApuState.reset with resetCountdown := 1 }.resetCountdown = 0 + 1 ∧
    3 < { ApuState.reset with resetCountdown := 4 }.resetCountdown ∧ { ApuState.reset with parity := true }.parity = true ∧
    (ApuState.reset.fsMode = false ∧ { ApuState.reset with fsMode := true }.fsMode = true) ∧
    (ApuState.reset.fsDivider = 0 ∧ ApuState.reset.fsStep = 0) ∧
    actionCycles (·.2) 1 { ApuState.reset with fsDivider := 7456, fsStep := 3 } = 1 := by decide
theorem test_witness_Mmc1SerialProtocol :
    Mmc1.reset.count = 0 ∧ { Mmc1.reset with count := 3 }.count < 4 ∧ { Mmc1.reset with count := 4 }.count = 4 ∧
    0x8000 ≤ (0x8000 : Addr).toNat ∧ shiftsIn 0x7F ∧ (0x80 : Byte).getLsbD 7 = true := ⟨rfl, by decide, rfl, by decide, rfl, rfl⟩
/-- Registers whose windows just fit the image, and whose window lies just outside. -/
theorem test_witness_Mmc1Remap :
    firstOutside 32768 8192 { Mmc1.reset with prgBank := 1 } = none ∧
    firstOutside 32768 8192 { Mmc1.reset with prgBank := 2 } = some 32768 ∧
    firstOutside 32768 8192 { Mmc1.reset with chrBank0 := 2 } = some 8192 ∧
    ∃ w, mmc1Remap (nesOf 1 32768 8192) Mmc1.reset Windows.none = .next w :=
  ⟨by decide, by decide, by decide, completes (by decide)⟩
theorem test_witness_BankWritesAndNsfReads :
    (1 : Byte).toNat * 16384 + 16384 ≤ (nesOf 2 32768 0).prg.size ∧
    (nesOf 2 32768 0).prg.size < (2 : Byte).toNat * 16384 + 16384 ∧ 0x8000 ≤ (0xFFFF : Addr).toNat ∧
    ((0xFFFF : Addr).toNat - 0x8000) / 4096 < 8 := by decide
theorem test_witness_MapperInitialize :
    ((nesOf 0 16384 0).mapperId = 0 ∧ (nesOf 0 16384 0).prg.size = 16384) ∧ (nesOf 0 32768 8192).chr.size = 8192 ∧
    ((nesOf 0 16383 0).prg.size ≠ 16384 ∧ (nesOf 0 16383 0).prg.size ≠ 32768) ∧ 16384 ≤ (nesOf 1 16384 0).prg.size ∧
    (0 < (nesOf 2 16384 8191).chr.size ∧ (nesOf 2 16384 8191).chr.size < 8192) ∧
    ((nesOf 1 16383 0).mapperId = 1 ∧ (nesOf 2 16383 0).mapperId = 2 ∧ (nesOf 1 16383 0).prg.size < 16384) ∧
    (faultOf (powerUpMapper (.nes (nesOf 1 65536 4095))) = some (.bankOutOfRange 0) ∧
      faultOf (powerUpMapper (.nes (nesOf 1 65536 4096))) = some (.bankOutOfRange 4096)) ∧ 3 ≤ (nesOf 3 0 0).mapperId.toNat := by decide
theorem test_witness_BankSwitchIsIdempotent :
    (∃ r, mapperWrite (nesOf 2 32768 0) 0x8000 1 (.uxrom 0) Windows.none = .next r) ∧
    ∃ r, mmc1Writes (nesOf 1 32768 0) [(0xE000, 1), (0xE000, 0), (0xE000, 0), (0xE000, 0), (0xE000, 0)]
      (Mmc1.reset, Windows.none) = .next r := ⟨completes (by decide), completes (by decide)⟩
/-- A tie at two bits: 5 / 2 lies halfway between 2 and 3; and 15 / 4 is rounded up to a power of two. -/
theorem test_witness_RoundingIsToNearestEven :
    roundFraction 2 5 2 = { man := 2, exp := 0 } ∧ roundFraction 2 15 4 = { man := 2, exp := 1 } ∧ 2 ≤ 2 ∧ 0 < 5 := by decide
/-- Silent and loudest outputs; the smallest sounding sample's number is in the range of the normal numbers. -/
theorem test_witness_MixerFormulas :
    0 + 0 = 0 ∧ 0 < 15 + 15 ∧ 0 < (mixerValue 1 0 0 0).man ∧
    -149 ≤ (roundFraction 24 (mixerValue 1 0 0 0).num (mixerValue 1 0 0 0).den).exp ∧
    (roundFraction 24 (mixerValue 1 0 0 0).num (mixerValue 1 0 0 0).den).exp ≤ 104 := by decide
/-- Two blocks of two samples from a stream of five, the last sample left over. -/
theorem test_witness_BlocksAreFull : 0 < 2 ∧ fullBlocks 5 2 [1, 2, 3, 4, 5] = [[1, 2], [3, 4]] := by decide
theorem test_witness_BlocksAreLittleEndian :
    blockBytes [0x3F21BE76] = [0x76, 0xBE, 0x21, 0x3F] ∧ [(0x3F21BE76 : BitVec 32)][0]? = some 0x3F21BE76 ∧ 3 < 4 := by decide
/-- R384, R411: a NOP adds its two samples to those since power-up; a listed grant with an NMI pending adds the entry's seven. -/
theorem test_witness_AudioBlocksAreHandedOver :
    (fresh.run = .running ∧ fresh.hostQueue = []) ∧
    shows (run [0xEA] fresh) (fun t => (t.audio.length, t.out.samples.length, t.cycles)) = some (2, 2, 2) ∧
    { fresh with nmiPending := true, hostQueue := [.grant 0x81] }.hostQueue = .grant 0x81 :: [] ∧
    shows (step { fresh with nmiPending := true, hostQueue := [.grant 0x81] })
      (fun t => (t.audio.length, t.cycles, t.buttons)) = some (7, 7, 0x81) := by decide
theorem test_witness_SamplesPerCycleAndSilence :
    ApuState.reset.pulse1.len = 0 ∧ ApuState.reset.pulse2.len = 0 ∧ ApuState.reset.triangle.len = 0 ∧
    ApuState.reset.noise.len = 0 := by decide
/-- An iNES file of its 16 header bytes with no PRG and no CHR, one too short for its PRG bytes, one with a wrong magic; an NSF
file of 128 bytes, one of 127, one with a wrong magic. -/
theorem test_witness_ContainersParse :
    (∃ f, parseNes ([0x4E, 0x45, 0x53, 0x1A] ++ List.replicate 12 0) = .next f) ∧
    faultOf (parseNes ([0x4E, 0x45, 0x53, 0x1A, 1] ++ List.replicate 11 0)) = some (.containerParseError .truncated) ∧
    faultOf (parseNes [0x4E, 0x45, 0x53, 0x1B]) = some (.containerParseError .magic) ∧
    (∃ f, parseNsf ([0x4E, 0x45, 0x53, 0x4D, 0x1A] ++ List.replicate 123 0) = .next f) ∧
    faultOf (parseNsf ([0x4E, 0x45, 0x53, 0x4D, 0x1A] ++ List.replicate 122 0)) = some (.containerParseError .truncated) ∧
    faultOf (parseNsf [0x4E, 0x45, 0x53, 0x1A]) = some (.containerParseError .magic) :=
  ⟨completes (by decide), by decide, by decide, completes (by decide), by decide, by decide⟩
theorem test_witness_PowerUpSetsEveryElement :
    faultOf (powerUpMapper (.nes (nesOf 3 16384 0))) = some (.unsupportedMapper 3) ∧
    (∃ mw, powerUpMapper (.nes (nesOf 0 16384 0)) = .next mw) ∧ ∃ mw, powerUpMapper (.nsf (nsfOf 1)) = .next mw :=
  ⟨by decide, completes (by decide), completes (by decide)⟩
theorem test_witness_NsfBootstrapProgram :
    (∀ k (h : k < 8), (nsfOf 0).banks0[k] = 0) ∧ ∃ k, ∃ h : k < 8, (nsfOf 1).banks0[k] ≠ 0 :=
  ⟨by decide, 0, by decide, by decide⟩
theorem test_witness_StopsArePreciseAndFinal :
    (fresh.run = .running ∧ faultOf (step { fresh with pc := 0x2000 }) = some (.pcOutOfRange 0x2000)) ∧
    refusalOf (run [0xAD, 0x00, 0x20] fresh) = some (.unmodelled 0x2000 .read) := by decide
/-- A machine that has spent n cycles of a budget of 100, with the host about to end it. -/
def spent (n : Nat) : State :=
  { fresh with cycles := n, params := { fresh.params with cycleBudget := 100 }, hostQueue := [.endOnBudget] }

/-- A budget exceeded by one cycle and one just met; a play timer before and after the call was reached. -/
theorem test_witness_HostMovesTakeEffect :
    ((spent 101).run = .running ∧ (spent 101).params.cycleBudget ≠ 0 ∧
      (spent 101).params.cycleBudget < (spent 101).cycles) ∧
    ¬ ((spent 100).params.cycleBudget ≠ 0 ∧ (spent 100).params.cycleBudget < (spent 100).cycles) ∧
    shows (step { nsfState with hostQueue := [.playTimer] }) (·.pc) = some 0x0400 ∧
    shows (step { nsfState with reachedPlay := true, hostQueue := [.playTimer] }) (·.pc) = some 0x5005 ∧
    shows (step { nsfState with pc := 0x5000, hostQueue := [.grant 0] }) (·.reachedPlay) = some false ∧
    shows (step { nsfState with pc := 0x5000 }) (·.reachedPlay) = some false ∧
    shows (step { nsfState with pc := 0x5000, hostQueue := [.changeTrack 7 Draws.zero] }) (·.track) = some 7 := by decide
/-- An iNES file of one blank 16 KiB bank is too long to write out here: a file with no bank parses and its power-up faults; one
with a wrong magic does not parse; an NSF file powers up with its starting song less 1. -/
theorem test_witness_LoadsPowerUp :
    (∃ f, parseNes ([0x4E, 0x45, 0x53, 0x1A] ++ List.replicate 12 0) = .next f) ∧
    faultOf (step { fresh with hostQueue := [.loadNes [0x4E] Draws.zero] }) = some (.containerParseError .magic) ∧
    faultOf (step { fresh with hostQueue := [.loadNsf [0x4E] Draws.zero] }) = some (.containerParseError .magic) ∧
    shows (step { fresh with
      hostQueue := [.loadNsf ([0x4E, 0x45, 0x53, 0x4D, 0x1A, 1, 9, 3] ++ List.replicate 120 0) Draws.zero] })
      (fun t => (t.track, t.pc)) = some (2, 0x5000) ∧
    shows (step { fresh with hostQueue := [.withhold] }) (·.hostQueue) = some [] :=
  ⟨completes (by decide), by decide, by decide, by decide, by decide⟩
theorem test_witness_BBitsStaySet : fresh.p &&& 0x30 = 0x30 ∧ ∃ t, step fresh = .next t := ⟨by decide, _, rfl⟩

/-- A running machine with a program in RAM: its memories. -/
theorem fresh_memory : MemoryInv fresh :=
  ⟨⟨rfl, rfl⟩, nofun, rfl, ⟨rfl, rfl⟩, ⟨rfl, rfl⟩⟩
theorem fresh_ppu : PpuInv fresh :=
  ⟨by decide, by decide, fun _ => rfl, nofun, nofun⟩
theorem fresh_apu : ApuInv fresh :=
  ⟨by decide, by decide, by decide, by decide, by decide, by decide, fun _ => rfl, fun _ => rfl, fun _ => rfl, fun _ => rfl,
    ⟨by decide, by decide, by decide, by decide⟩, rfl, ⟨_, rfl⟩⟩
theorem fresh_mapper : mapperAgrees fresh := .inr ⟨rfl, rfl, rfl⟩
theorem fresh_cartridge : cartridgeSound fresh :=
  ⟨by decide, by decide, .inr ⟨by decide, by decide⟩, rfl, rfl, rfl, rfl⟩
/-- A state of the invariant, other than reset's, with a step that leads to a next state. -/
theorem test_witness_StepKeepsInvariant : Inv fresh ∧ ∃ t, step fresh = .next t :=
  ⟨⟨by decide, fresh_memory, fresh_ppu, fresh_apu, fresh_mapper, fresh_cartridge⟩, _, rfl⟩

end Sys2Proof.Tests
end

section
/-!
PROOFS. What an instruction is made of. Every instruction, and every taking of an interrupt, is a row of register writes, reads
and stores (`Touches`), so a fact about the state that those three keep is kept by all 151 instructions at once.
-/

namespace Sys2Proof.Machine

/-- The states that register writes, reads that complete and stores that complete lead to. -/
inductive Touches (s : State) : State → Prop where
  | refl : Touches s s
  | registers {u : State} (a x y sp : Byte) (pc : Addr) (p : Byte) (h : Touches s u) :
      Touches s { u with a := a, x := x, y := y, sp := sp, pc := pc, p := p }
  | read {u t : State} {ea : Addr} {b : Byte} (h : Touches s u) (hr : memRead ea u = .next (b, t)) : Touches s t
  | store {u t : State} {ea : Addr} {v : Byte} (h : Touches s u) (hw : memWrite ea v u = .next t) : Touches s t

namespace Touches

variable {s t u : State}

theorem trans (h : Touches s t) (h' : Touches t u) : Touches s u := by
  induction h' with
  | refl => exact h
  | registers a x y sp pc p _ ih => exact .registers a x y sp pc p ih
  | read _ hr ih => exact .read ih hr
  | store _ hw ih => exact .store ih hw

theorem setA (h : Touches s u) (v : Byte) : Touches s (u.setA v) := h.registers v u.x u.y u.sp u.pc u.p
theorem setX (h : Touches s u) (v : Byte) : Touches s (u.setX v) := h.registers u.a v u.y u.sp u.pc u.p
theorem setY (h : Touches s u) (v : Byte) : Touches s (u.setY v) := h.registers u.a u.x v u.sp u.pc u.p
theorem setSp (h : Touches s u) (v : Byte) : Touches s (u.setSp v) := h.registers u.a u.x u.y v u.pc u.p
theorem setPc (h : Touches s u) (v : Addr) : Touches s (u.setPc v) := h.registers u.a u.x u.y u.sp v u.p
theorem setP (h : Touches s u) (v : Byte) : Touches s (u.setP v) := h.registers u.a u.x u.y u.sp u.pc v
theorem advance (h : Touches s u) (n : Nat) : Touches s (u.advance n) := h.setPc _

/-- A push is a store to page 1 and a write of S (R69). -/
theorem push (h : Touches s u) (v : Byte) : Touches s (Machine.push v u) :=
  (h.store (push_eq_memWrite v u)).setSp _

theorem push16 (h : Touches s u) (w : Addr) : Touches s (Machine.push16 w u) := (h.push _).push _

/-- What no instruction touches stays (R71). -/
theorem surroundings (h : Touches s t) : SameSurroundings s t := by
  induction h with
  | refl => exact ⟨rfl, rfl, rfl, rfl, rfl, rfl, rfl, rfl, rfl, rfl, rfl, rfl, rfl, rfl, rfl⟩
  | registers _ _ _ _ _ _ _ ih => exact ih
  | read _ hr ih => rcases memRead_effect hr with rfl | ⟨-, rfl⟩ | ⟨-, rfl⟩ | ⟨-, rfl⟩ <;> exact ih
  | store _ hw ih =>
    cases memWrite_effect hw with
    | ppu p _ hp => rcases hp with rfl | rfl | rfl <;> exact ih
    | _ => exact ih

end Touches

/-- Two reads that make a word touch no register. -/
theorem readWord_touches {lo hi w : Addr} {s t : State}
    (h : (andThen (memRead lo s) fun l => andThen (memRead hi l.2) fun r => .next (wordOf r.1 l.1, r.2)) =
      (.next (w, t) : Out (Addr × State))) :
    Touches s t ∧ SameRegisters s t ∧ t.pc = s.pc := by
  obtain ⟨⟨l, u⟩, hl, h⟩ := andThen_eq_next.1 h
  obtain ⟨⟨r, v⟩, hr, h⟩ := andThen_eq_next.1 h
  cases h
  obtain ⟨al, xl, yl, spl, pcl, pl, -⟩ := memRead_keeps hl
  obtain ⟨ar, xr, yr, spr, pcr, pr, -⟩ := memRead_keeps hr
  exact ⟨(Touches.refl.read hl).read hr,
    ⟨ar.trans al, xr.trans xl, yr.trans yl, spr.trans spl, pr.trans pl⟩, pcr.trans pcl⟩

theorem read16_touches {a w : Addr} {s t : State} (h : read16 a s = .next (w, t)) :
    Touches s t ∧ SameRegisters s t ∧ t.pc = s.pc := readWord_touches h

theorem read16JmpInd_touches {a w : Addr} {s t : State} (h : read16JmpInd a s = .next (w, t)) :
    Touches s t ∧ SameRegisters s t ∧ t.pc = s.pc := readWord_touches h

/-- Taking an interrupt moves S and PC, and sets I in P (R302, R329). -/
theorem takeInterrupt_touches {ret vector : Addr} {q : Byte} {s t : State}
    (h : takeInterrupt ret q vector s = .next t) :
    ∃ u, Touches s u ∧ u.a = s.a ∧ u.x = s.x ∧ u.y = s.y ∧ u.p = setI true s.p ∧ u.pc = s.pc ∧ t = u.setPc t.pc := by
  obtain ⟨⟨w, u⟩, hr, rfl⟩ := takeInterrupt_eq_next h
  obtain ⟨htouch, ⟨ha, hx, hy, -, hp⟩, hpc⟩ := read16_touches hr
  exact ⟨u, (((Touches.refl.push16 ret).push q).setP _).trans htouch, ha, hx, hy, hp, hpc, rfl⟩

end Sys2Proof.Machine
end

section
/-!
PROOFS. The frame of the 151 instructions. `Within` says what an instruction may have written before its PC update, `Completes`
adds that update; one lemma per operation on the registers and one per shape, then one case per mnemonic.
-/

namespace Sys2Proof.Machine
open Sys2Proof.Statements

/-! ## Flags outside a mask -/

/-- Writing one bit leaves the bits outside a mask that holds it. -/
theorem setBit_outside {m : Byte} {n : Nat} (hm : m.getLsbD n = true) (v : Byte) (b : Bool) :
    setBit v n b &&& ~~~m = v &&& ~~~m := by
  have hn : n < 8 := BitVec.lt_of_getLsbD hm
  apply BitVec.eq_of_getLsbD_eq
  intro i _
  rw [BitVec.getLsbD_and, BitVec.getLsbD_and, getLsbD_setBit v n i b hn]
  by_cases e : i = n
  · simp [e, hm]
  · rw [if_neg e]

theorem setNZ_outside {m : Byte} (hz : m.getLsbD 1 = true) (hn : m.getLsbD 7 = true) (v p : Byte) :
    setNZ v p &&& ~~~m = p &&& ~~~m := by
  rw [setNZ, setN, setBit_outside hn, setZ, setBit_outside hz]

theorem sumFlags_outside (a v p : Byte) : sumFlags a v p &&& ~~~0xC3#8 = p &&& ~~~0xC3#8 := by
  rw [sumFlags, setNZ_outside rfl rfl, setV, setBit_outside rfl, setC, setBit_outside rfl]

theorem compareFlags_outside (r v p : Byte) : compareFlags r v p &&& ~~~0x83#8 = p &&& ~~~0x83#8 := by
  rw [compareFlags, setNZ_outside rfl rfl, setC, setBit_outside rfl]

theorem bitFlags_outside (a v p : Byte) : bitFlags a v p &&& ~~~0xC2#8 = p &&& ~~~0xC2#8 := by
  rw [bitFlags, setV, setBit_outside rfl, setN, setBit_outside rfl, setZ, setBit_outside rfl]

theorem shiftFlags_outside (r : Shifted) (p : Byte) : shiftFlags r p &&& ~~~0x83#8 = p &&& ~~~0x83#8 := by
  rw [shiftFlags, setNZ_outside rfl rfl, setC, setBit_outside rfl]

theorem pulledStatus_outside (v p : Byte) : pulledStatus v p &&& ~~~0xCF#8 = p &&& ~~~0xCF#8 :=
  pulledStatus_bMask v p

/-! ## What an instruction may have written -/

/-- From s to t only what the instruction may write was written, and PC not yet. -/
structure Within (i : Instr) (s t : State) : Prop where
  a : writesA i = false → t.a = s.a
  x : writesX i = false → t.x = s.x
  y : writesY i = false → t.y = s.y
  sp : writesSp i = false → t.sp = s.sp
  flags : t.p &&& ~~~writtenFlags i.mnemonic = s.p &&& ~~~writtenFlags i.mnemonic
  pc : t.pc = s.pc
  touches : Touches s t

/-- The instruction wrote what it may write and then PC: past itself, or elsewhere where it sets PC. -/
inductive Completes (i : Instr) (s : State) : State → Prop where
  | advance {u : State} (h : Within i s u) : Completes i s (u.advance i.length)
  | jump {u : State} (hj : setsPc i = true) (w : Addr) (h : Within i s u) : Completes i s (u.setPc w)

namespace Within

variable {i : Instr} {s t u : State}

theorem refl : Within i s s := ⟨fun _ => rfl, fun _ => rfl, fun _ => rfl, fun _ => rfl, rfl, rfl, .refl⟩

theorem trans (h : Within i s t) (h' : Within i t u) : Within i s u :=
  ⟨fun e => (h'.a e).trans (h.a e), fun e => (h'.x e).trans (h.x e), fun e => (h'.y e).trans (h.y e),
    fun e => (h'.sp e).trans (h.sp e), h'.flags.trans h.flags, h'.pc.trans h.pc, h.touches.trans h'.touches⟩

/-- A row of touches that leaves the registers. -/
theorem of_sameRegisters (ht : Touches s t) (hr : SameRegisters s t) (hpc : t.pc = s.pc) : Within i s t := by
  obtain ⟨ha, hx, hy, hsp, hp⟩ := hr
  exact ⟨fun _ => ha, fun _ => hx, fun _ => hy, fun _ => hsp, by rw [hp], hpc, ht⟩

theorem read {ea : Addr} {b : Byte} (h : memRead ea s = .next (b, t)) : Within i s t := by
  obtain ⟨ha, hx, hy, hsp, hpc, hp, -⟩ := memRead_keeps h
  exact .of_sameRegisters (Touches.refl.read h) ⟨ha, hx, hy, hsp, hp⟩ hpc

theorem store {ea : Addr} {b : Byte} (h : memWrite ea b s = .next t) : Within i s t := by
  obtain ⟨ha, hx, hy, hsp, hpc, hp, -⟩ := memWrite_keeps h
  exact .of_sameRegisters (Touches.refl.store h) ⟨ha, hx, hy, hsp, hp⟩ hpc

theorem setA (h : Within i s u) (hw : writesA i = true) (v : Byte) : Within i s (u.setA v) :=
  ⟨fun e => absurd (hw.symm.trans e) (by decide), h.x, h.y, h.sp, h.flags, h.pc, h.touches.setA v⟩

theorem setX (h : Within i s u) (hw : writesX i = true) (v : Byte) : Within i s (u.setX v) :=
  ⟨h.a, fun e => absurd (hw.symm.trans e) (by decide), h.y, h.sp, h.flags, h.pc, h.touches.setX v⟩

theorem setY (h : Within i s u) (hw : writesY i = true) (v : Byte) : Within i s (u.setY v) :=
  ⟨h.a, h.x, fun e => absurd (hw.symm.trans e) (by decide), h.sp, h.flags, h.pc, h.touches.setY v⟩

theorem setSp (h : Within i s u) (hw : writesSp i = true) (v : Byte) : Within i s (u.setSp v) :=
  ⟨h.a, h.x, h.y, fun e => absurd (hw.symm.trans e) (by decide), h.flags, h.pc, h.touches.setSp v⟩

/-- P may be written where the new value agrees with the old outside the instruction's flags, which are the mask m. -/
theorem setP (h : Within i s u) {m : Byte} (hm : writtenFlags i.mnemonic = m) {q : Byte}
    (hq : q &&& ~~~m = u.p &&& ~~~m) : Within i s (u.setP q) :=
  ⟨h.a, h.x, h.y, h.sp, (by subst hm; exact hq : q &&& _ = u.p &&& _).trans h.flags, h.pc, h.touches.setP q⟩

theorem push (h : Within i s u) (hw : writesSp i = true) (v : Byte) : Within i s (push v u) :=
  (h.trans (.store (push_eq_memWrite v u))).setSp hw _

theorem push16 (h : Within i s u) (hw : writesSp i = true) (w : Addr) : Within i s (push16 w u) :=
  (h.push hw _).push hw _

theorem afterPull (h : Within i s u) (hw : writesSp i = true) : Within i s (afterPull u) := h.setSp hw _

/-! The operations of an operand on the registers. -/

theorem loadA (hw : writesA i = true) (hm : writtenFlags i.mnemonic = 0x82) (v : Byte) (u : State) :
    Within i u (loadA v u) := (refl.setA hw v).setP hm (setNZ_outside rfl rfl v _)

theorem loadX (hw : writesX i = true) (hm : writtenFlags i.mnemonic = 0x82) (v : Byte) (u : State) :
    Within i u (loadX v u) := (refl.setX hw v).setP hm (setNZ_outside rfl rfl v _)

theorem loadY (hw : writesY i = true) (hm : writtenFlags i.mnemonic = 0x82) (v : Byte) (u : State) :
    Within i u (loadY v u) := (refl.setY hw v).setP hm (setNZ_outside rfl rfl v _)

theorem addA (hw : writesA i = true) (hm : writtenFlags i.mnemonic = 0xC3) (v : Byte) (u : State) :
    Within i u (addA v u) := (refl.setA hw _).setP hm (sumFlags_outside _ v _)

theorem compare (hm : writtenFlags i.mnemonic = 0x83) (r v : Byte) (u : State) :
    Within i u (u.setP (compareFlags r v u.p)) := refl.setP hm (compareFlags_outside r v _)

theorem bitTest (hm : writtenFlags i.mnemonic = 0xC2) (v : Byte) (u : State) : Within i u (bitTest v u) :=
  refl.setP hm (bitFlags_outside _ v _)

theorem shiftA (hw : writesA i = true) (hm : writtenFlags i.mnemonic = 0x83) (r : Shifted) (u : State) :
    Within i u (shiftA r u) := (refl.setA hw _).setP hm (shiftFlags_outside r _)

end Within

/-! ## The shapes -/

namespace Completes

variable {i : Instr} {s t : State} {n : Nat} {ea : Addr}

theorem ofValue {v : Byte} {f : Byte → State → State} (h : withValue v n f s = .next t) (hn : n = i.length)
    (hf : ∀ v u, Within i u (f v u)) : Completes i s t := by
  subst hn
  cases h
  exact .advance (hf v s)

theorem ofRead {f : Byte → State → State} (h : withRead ea n f s = .next t) (hn : n = i.length)
    (hf : ∀ v u, Within i u (f v u)) : Completes i s t := by
  subst hn
  obtain ⟨m, u, hr, rfl⟩ := withRead_eq_next h
  exact .advance (.trans (.read hr) (hf m u))

theorem ofStore {v : Byte} (h : withStore ea n v s = .next t) (hn : n = i.length) : Completes i s t := by
  subst hn
  obtain ⟨u, hw, rfl⟩ := withStore_eq_next h
  exact .advance (.store hw)

theorem ofModify {result : Byte → Byte} {flags : Byte → Byte → Byte} {k : Byte}
    (h : withModify ea n result flags s = .next t) (hn : n = i.length) (hm : writtenFlags i.mnemonic = k)
    (hq : ∀ v p, flags v p &&& ~~~k = p &&& ~~~k) : Completes i s t := by
  subst hn
  obtain ⟨m, u, v, hr, hw, rfl⟩ := withModify_eq_next h
  exact .advance (((Within.read hr).trans (.store hw)).setP hm (hq m _))

theorem ofStep {delta : Byte} (h : withStep ea n delta s = .next t) (hn : n = i.length)
    (hm : writtenFlags i.mnemonic = 0x82) : Completes i s t :=
  ofModify h hn hm fun v p => setNZ_outside rfl rfl (v + delta) p

theorem ofShift {shift : Byte → Shifted} (h : withShift ea n shift s = .next t) (hn : n = i.length)
    (hm : writtenFlags i.mnemonic = 0x83) : Completes i s t :=
  ofModify h hn hm fun v p => shiftFlags_outside (shift v) p

theorem ofFlags {f : Byte → Byte} {k : Byte} (h : withFlags f s = .next t) (hn : 1 = i.length)
    (hm : writtenFlags i.mnemonic = k) (hq : ∀ p, f p &&& ~~~k = p &&& ~~~k) : Completes i s t := by
  cases h
  rw [hn]
  exact .advance (Within.refl.setP hm (hq s.p))

theorem ofNext {u : State} (h : .next (u.advance n) = (.next t : Out State)) (hn : n = i.length) (hu : Within i s u) :
    Completes i s t := by
  subst hn
  cases h
  exact .advance hu

theorem ofJump {u : State} {w : Addr} (h : .next (u.setPc w) = (.next t : Out State))
    (hj : setsPc i = true) (hu : Within i s u) : Completes i s t := by
  cases h
  exact .jump hj w hu

end Completes

/-- Every instruction that completes wrote within its frame. -/
theorem exec_completes {i : Instr} {s t : State} (h : exec i s = .next t) : Completes i s t := by
  cases i with
  | ldaImm | andImm | oraImm | eorImm => exact .ofValue h rfl (fun _ _ => .loadA rfl rfl _ _)
  | ldxImm => exact .ofValue h rfl (fun _ _ => .loadX rfl rfl _ _)
  | ldyImm => exact .ofValue h rfl (fun _ _ => .loadY rfl rfl _ _)
  | adcImm | sbcImm => exact .ofValue h rfl (fun _ _ => .addA rfl rfl _ _)
  | cmpImm | cpxImm | cpyImm => exact .ofValue h rfl (fun _ _ => .compare rfl _ _ _)
  | ldaZp | ldaZpX | ldaAbs | ldaAbsX | ldaAbsY | ldaIndX | ldaIndY
  | andZp | andZpX | andAbs | andAbsX | andAbsY | andIndX | andIndY
  | oraZp | oraZpX | oraAbs | oraAbsX | oraAbsY | oraIndX | oraIndY
  | eorZp | eorZpX | eorAbs | eorAbsX | eorAbsY | eorIndX | eorIndY =>
    exact .ofRead h rfl (fun _ _ => .loadA rfl rfl _ _)
  | ldxZp | ldxZpY | ldxAbs | ldxAbsY => exact .ofRead h rfl (fun _ _ => .loadX rfl rfl _ _)
  | ldyZp | ldyZpX | ldyAbs | ldyAbsX => exact .ofRead h rfl (fun _ _ => .loadY rfl rfl _ _)
  | adcZp | adcZpX | adcAbs | adcAbsX | adcAbsY | adcIndX | adcIndY
  | sbcZp | sbcZpX | sbcAbs | sbcAbsX | sbcAbsY | sbcIndX | sbcIndY =>
    exact .ofRead h rfl (fun _ _ => .addA rfl rfl _ _)
  | cmpZp | cmpZpX | cmpAbs | cmpAbsX | cmpAbsY | cmpIndX | cmpIndY | cpxZp | cpxAbs | cpyZp | cpyAbs =>
    exact .ofRead h rfl (fun _ _ => .compare rfl _ _ _)
  | bitZp | bitAbs => exact .ofRead h rfl (fun _ _ => .bitTest rfl _ _)
  | staZp | staZpX | staAbs | staAbsX | staAbsY | staIndX | staIndY | stxZp | stxZpY | stxAbs
  | styZp | styZpX | styAbs => exact .ofStore h rfl
  | incZp | incZpX | incAbs | incAbsX | decZp | decZpX | decAbs | decAbsX => exact .ofStep h rfl rfl
  | aslZp | aslZpX | aslAbs | aslAbsX | lsrZp | lsrZpX | lsrAbs | lsrAbsX
  | rolZp | rolZpX | rolAbs | rolAbsX | rorZp | rorZpX | rorAbs | rorAbsX => exact .ofShift h rfl rfl
  | txa | tya => exact .ofValue h rfl (fun _ _ => .loadA rfl rfl _ _)
  | tax | tsx | inx | dex => exact .ofValue h rfl (fun _ _ => .loadX rfl rfl _ _)
  | tay | iny | dey => exact .ofValue h rfl (fun _ _ => .loadY rfl rfl _ _)
  | txs => exact .ofNext h rfl (Within.refl.setSp rfl _)
  | aslAcc | lsrAcc | rolAcc | rorAcc => exact .ofNext h rfl (.shiftA rfl rfl _ _)
  | pha | php => exact .ofNext h rfl (Within.refl.push rfl _)
  | pla => exact .ofNext h rfl ((Within.refl.afterPull rfl).trans (.loadA rfl rfl _ _))
  | plp => exact .ofNext h rfl ((Within.refl.afterPull rfl).setP rfl (pulledStatus_outside _ _))
  | clc | sec | cli | sei | clv | cld | sed => exact .ofFlags h rfl rfl (fun p => setBit_outside rfl p _)
  | nop => exact .ofNext h rfl .refl
  | bcc | bcs | beq | bne | bmi | bpl | bvc | bvs | jmpAbs => exact .ofJump h rfl .refl
  | jmpInd w =>
    obtain ⟨⟨v, u⟩, hr, h⟩ := andThen_eq_next.1 h
    obtain ⟨htouch, hregs, hpc⟩ := read16JmpInd_touches hr
    exact .ofJump h rfl (.of_sameRegisters htouch hregs hpc)
  | jsr w => exact .ofJump h rfl (Within.refl.push16 rfl _)
  | rts => exact .ofJump h rfl ((Within.refl.afterPull rfl).afterPull rfl)
  | brk =>
    obtain ⟨u, htouch, ha, hx, hy, hp, hpc, ht⟩ := takeInterrupt_touches h
    rw [ht]
    refine .jump rfl _ ⟨fun _ => ha, fun _ => hx, fun _ => hy, nofun, ?_, hpc, htouch⟩
    rw [hp]
    exact setBit_outside rfl _ _
  | rti =>
    have hu : Within .rti s ((afterPull s).setP (pulledStatus (pulled s) s.p)) :=
      (Within.refl.afterPull rfl).setP rfl (pulledStatus_outside _ _)
    cases h
    exact .jump rfl _ ((hu.afterPull rfl).afterPull rfl)

/-- Settles O25: each instruction completes within its frame, and what lies around it is kept by every read and store. -/
theorem registersFlagsAndSurroundingsFrame : Obligations.RegistersFlagsAndSurroundingsFrame := by
  intro i s t h
  cases exec_completes h with
  | advance hw => exact ⟨hw.a, hw.x, hw.y, hw.sp, fun _ => by rw [← hw.pc]; rfl, hw.flags, hw.touches.surroundings⟩
  | jump hj w hw =>
    exact ⟨hw.a, hw.x, hw.y, hw.sp, fun e => absurd (hj.symm.trans e) (by decide), hw.flags, hw.touches.surroundings⟩

end Sys2Proof.Machine
end

section
/-!
PROOFS. What a step is made of: a system step is a row of touches followed by the devices' advance, a power-up is the power-up
state followed by a row of touches. The B bits follow at once.
-/

namespace Sys2Proof.Machine
open Sys2Proof.Statements

/-! ## The B bits of one instruction (R26) -/

/-- No rule names a B bit among its flags. -/
theorem writtenFlags_bMask (m : Mnemonic) : ~~~writtenFlags m &&& 0x30 = 0x30 := by
  cases m <;> rfl

/-- What keeps every bit outside an instruction's flags keeps the B bits. -/
theorem Within.bBits {i : Instr} {s t : State} (h : Within i s t) : t.p &&& 0x30 = s.p &&& 0x30 := by
  rw [← writtenFlags_bMask i.mnemonic, ← BitVec.and_assoc, ← BitVec.and_assoc, h.flags]

/-- Every instruction is a row of touches that keeps the B bits. -/
theorem exec_touches {i : Instr} {s t : State} (h : exec i s = .next t) :
    Touches s t ∧ t.p &&& 0x30 = s.p &&& 0x30 := by
  cases exec_completes h with
  | advance hw => exact ⟨hw.touches.advance _, hw.bBits⟩
  | jump _ w hw => exact ⟨hw.touches.setPc w, hw.bBits⟩

/-! ## A system step -/

/-- A system step touches the state, may take a pending NMI, and then adds its cycles and advances the devices (R455). -/
theorem systemStep_effect {s t : State} (h : systemStep s = .next t) :
    ∃ c nmi u, Touches s u ∧ u.p &&& 0x30 = s.p &&& 0x30 ∧ (nmi = u.nmiPending ∨ nmi = false) ∧
      t = advanceDevices c (addCycles c { u with nmiPending := nmi }) := by
  rcases systemStep_cases h with ⟨-, v, hv, rfl⟩ | ⟨-, i, u, -, hu, rfl⟩
  · obtain ⟨u, hu, hv⟩ := andThen_eq_next.1 hv
    cases hv
    obtain ⟨w, hw, -, -, -, hp, -, ht⟩ := takeInterrupt_touches hu
    refine ⟨7, false, u, ht ▸ hw.setPc _, ?_, .inr rfl, rfl⟩
    rw [ht]
    exact (congrArg (· &&& 48#8) hp).trans (setI_bMask true s.p)
  · obtain ⟨ht, hp⟩ := exec_touches hu
    exact ⟨_, u.nmiPending, u, ht, hp, .inl rfl, rfl⟩

/-! ## A power-up -/

/-- PC at power-up comes from the RESET vector or is the bootstrap's start; P stays (R452, R453). -/
theorem setStartPc_touches {s t : State} (h : setStartPc s = .next t) : Touches s t ∧ t.p = s.p := by
  unfold setStartPc at h
  split at h
  · obtain ⟨⟨w, u⟩, hr, h⟩ := andThen_eq_next.1 h
    cases h
    obtain ⟨ht, ⟨-, -, -, -, hp⟩, -⟩ := read16_touches hr
    exact ⟨ht.setPc w, hp⟩
  · cases h
    exact ⟨Touches.refl.setPc _, rfl⟩

/-- A power-up sets every state element and then PC (R450 to R453). -/
theorem powerUp_effect {s t : State} {c : Cartridge} {k : Byte} {d : Draws} (h : powerUp s c k d = .next t) :
    ∃ mw, powerUpMapper c = .next mw ∧ Touches (powerUpState s c k d mw) t ∧ t.p = 0x34 := by
  obtain ⟨mw, hm, h⟩ := andThen_eq_next.1 h
  exact ⟨mw, hm, setStartPc_touches h⟩

/-! ## A step -/

/-- The cartridge that a load or a track change powers up: one that a container holds, or the loaded one. -/
inductive PoweredCartridge (s : State) : Cartridge → Prop where
  | nes {file : List Byte} {f : NesFile} (h : parseNes file = .next f) : PoweredCartridge s (.nes f)
  | nsf {file : List Byte} {f : NsfFile} (h : parseNsf file = .next f) : PoweredCartridge s (.nsf f)
  | loaded {f : NsfFile} (h : s.cart = .nsf f) : PoweredCartridge s (.nsf f)

/-- A step is a system step, a move that writes the run state and PC at most, or a power-up; the host's side (buttons and
coming moves) aside. -/
theorem step_effect {s t : State} (h : step s = .next t) :
    ∃ buttons queue s1, s1 = { s with buttons := buttons, hostQueue := queue } ∧
      (systemStep s1 = .next t ∨ (∃ run pc, t = { s1 with run := run, pc := pc }) ∨
        ∃ c k d, PoweredCartridge s1 c ∧ powerUp s1 c k d = .next t) := by
  obtain ⟨-, h⟩ := step_cases h
  rcases h with ⟨-, h⟩ | ⟨v, ms, -, h⟩ | ⟨ms, -, h⟩ | ⟨ms, -, h⟩ | ⟨ms, -, h⟩ | ⟨file, d, ms, -, h⟩ |
    ⟨file, d, ms, -, h⟩ | ⟨k, d, ms, -, h⟩
  · exact ⟨s.buttons, s.hostQueue, s, rfl, .inl h⟩
  · exact ⟨v, ms, _, rfl, .inl h⟩
  · exact ⟨s.buttons, ms, _, rfl, .inr (.inl ⟨s.run, s.pc, h⟩)⟩
  · refine ⟨s.buttons, ms, _, rfl, .inr (.inl ?_)⟩
    unfold endOnBudget at h
    split at h
    · exact ⟨.terminated, s.pc, h⟩
    · exact ⟨s.run, s.pc, h⟩
  · refine ⟨s.buttons, ms, _, rfl, .inr (.inl ?_)⟩
    unfold playTimer at h
    split at h
    · exact ⟨s.run, s.pc, h⟩
    · split at h
      · exact ⟨s.run, _, h⟩
      · exact ⟨s.run, s.pc, h⟩
  · obtain ⟨f, hf, h⟩ := andThen_eq_next.1 h
    exact ⟨s.buttons, ms, _, rfl, .inr (.inr ⟨_, _, d, .nes hf, h⟩)⟩
  · obtain ⟨f, hf, h⟩ := andThen_eq_next.1 h
    exact ⟨s.buttons, ms, _, rfl, .inr (.inr ⟨_, _, d, .nsf hf, h⟩)⟩
  · unfold changeTrack at h
    split at h
    · cases h
      exact ⟨s.buttons, ms, _, rfl, .inr (.inl ⟨s.run, s.pc, rfl⟩)⟩
    · rename_i f hf
      exact ⟨s.buttons, ms, _, rfl, .inr (.inr ⟨_, k, d, .loaded hf, h⟩)⟩

/-- Settles O56: a system step keeps the B bits, a move of the host does not write P, a power-up sets both. -/
theorem bBitsStaySet : Obligations.BBitsStaySet := by
  intro s t hs h
  obtain ⟨buttons, queue, s1, rfl, h | ⟨run, pc, rfl⟩ | ⟨c, k, d, -, h⟩⟩ := step_effect h
  · obtain ⟨c, nmi, u, -, hp, -, rfl⟩ := systemStep_effect h
    exact hp.trans hs
  · exact hs
  · obtain ⟨mw, -, -, hp⟩ := powerUp_effect h
    rw [hp]
    rfl

end Sys2Proof.Machine
end

section
/-!
PROOFS. The PPU's part of the invariant: one dot tick moves the frame position by one and keeps the vblank window.
-/

namespace Sys2Proof.Machine

/-- The PPU's position lies in the frame, and vblank is set from (241, 1) to before (261, 1) only (R355, R357). -/
structure InFrame (p : PpuState) : Prop where
  scanline : p.scanline < 262
  dot : p.dot < 341
  vblank : p.vblank = true → 82182 ≤ framePosition p ∧ framePosition p < 89002

/-- The next position: the next dot, or the start of the next line, or (0, 0) after the last (R355). -/
theorem nextPosition_cases {l : Nat} (d : Nat) (hl : l < 262) :
    (d = 340 ∧ l = 261 ∧ nextPosition l d = (0, 0)) ∨ (d = 340 ∧ l < 261 ∧ nextPosition l d = (l + 1, 0)) ∨
      (d ≠ 340 ∧ nextPosition l d = (l, d + 1)) := by
  by_cases hd : d + 1 = dotsPerLine
  · by_cases hlast : l + 1 = linesPerFrame
    · exact .inl ⟨Nat.succ.inj hd, Nat.succ.inj hlast, by simp only [nextPosition, if_pos hd, if_pos hlast]⟩
    · refine .inr (.inl ⟨Nat.succ.inj hd, ?_, by simp only [nextPosition, if_pos hd, if_neg hlast]⟩)
      rw [linesPerFrame] at hlast
      omega
  · have hl' : l ≠ linesPerFrame := by rw [linesPerFrame]; omega
    exact .inr (.inr ⟨fun e => hd (congrArg (· + 1) e), by simp only [nextPosition, if_neg hd, if_neg hl']⟩)

/-- A dot tick moves the position by one dot and stays in the frame (R355). -/
theorem dotTick_framePosition {r : PpuRun} (hs : r.ppu.scanline < 262) (hd : r.ppu.dot < 341) :
    (dotTick r).ppu.scanline < 262 ∧ (dotTick r).ppu.dot < 341 ∧
      framePosition (dotTick r).ppu = (framePosition r.ppu + 1) % dotsPerFrame := by
  have h := dotTick_position r
  simp only [framePosition, dotsPerFrame]
  rcases nextPosition_cases r.ppu.dot hs with ⟨h1, h2, e⟩ | ⟨h1, h2, e⟩ | ⟨h1, e⟩
  all_goals
    obtain ⟨el, ed⟩ := Prod.mk.inj (h.trans e)
    omega

/-- After the events at a position vblank is set where that is (241, 1), or where it was set and that is not (261, 1)
(R357). -/
theorem positionEvents_vblank {r : PpuRun} (h : (positionEvents r).ppu.vblank = true) :
    (r.ppu.scanline = 241 ∧ r.ppu.dot = 1) ∨ (r.ppu.vblank = true ∧ ¬(r.ppu.scanline = 261 ∧ r.ppu.dot = 1)) := by
  unfold positionEvents at h
  split at h
  · exact .inl ‹_›
  · split at h
    · cases h
    · exact .inr ⟨h, ‹_›⟩

/-- The same of a dot tick, at the position it arrives at. -/
theorem dotTick_vblank {r : PpuRun} (h : (dotTick r).ppu.vblank = true) :
    ((dotTick r).ppu.scanline = 241 ∧ (dotTick r).ppu.dot = 1) ∨
      (r.ppu.vblank = true ∧ ¬((dotTick r).ppu.scanline = 261 ∧ (dotTick r).ppu.dot = 1)) := by
  rw [dotTick] at h ⊢
  obtain ⟨hs, hd, -⟩ := positionEvents_keeps _
  rw [hs, hd]
  exact positionEvents_vblank h

theorem dotTick_inFrame {r : PpuRun} (h : InFrame r.ppu) : InFrame (dotTick r).ppu := by
  obtain ⟨hs, hd, hp⟩ := dotTick_framePosition h.scanline h.dot
  refine ⟨hs, hd, fun hv => ?_⟩
  rcases dotTick_vblank hv with ⟨e1, e2⟩ | ⟨hold, hne⟩
  · rw [framePosition, e1, e2]
    exact ⟨by decide, by decide⟩
  · have hw := h.vblank hold
    rw [dotsPerFrame, Nat.mod_eq_of_lt (by omega), framePosition] at hp
    rw [framePosition]
    omega

theorem dotTicks_inFrame (n : Nat) {r : PpuRun} (h : InFrame r.ppu) : InFrame (dotTicks n r).ppu :=
  dotTicks_keeps (P := fun r => InFrame r.ppu) (fun _ => dotTick_inFrame) n r h

/-- n dot ticks move the position by n dots. -/
theorem dotTicks_framePosition (n : Nat) {r : PpuRun} (h : InFrame r.ppu) :
    framePosition (dotTicks n r).ppu = (framePosition r.ppu + n) % dotsPerFrame := by
  induction n with
  | zero =>
    have := h.scanline
    have := h.dot
    simp only [dotTicks, framePosition, dotsPerFrame]
    omega
  | succ n ih =>
    have hn := dotTicks_inFrame n h
    obtain ⟨-, -, hp⟩ := dotTick_framePosition hn.scanline hn.dot
    rw [dotTicks_succ, hp, ih, Nat.mod_add_mod, Nat.add_assoc]

/-- Dot ticks keep the PPU's RAMs. -/
theorem dotTicks_rams (n : Nat) (r : PpuRun) :
    (dotTicks n r).ppu.chrRam = r.ppu.chrRam ∧ (dotTicks n r).ppu.nametables = r.ppu.nametables := by
  refine dotTicks_keeps (P := fun q => q.ppu.chrRam = r.ppu.chrRam ∧ q.ppu.nametables = r.ppu.nametables)
    (fun q hq => ?_) n r ⟨rfl, rfl⟩
  obtain ⟨-, -, hc, hn⟩ := dotTick_keeps q
  obtain ⟨hqc, hqn⟩ := hq
  exact ⟨hc.trans hqc, hn.trans hqn⟩

end Sys2Proof.Machine
end

section
/-!
PROOFS. The APU's part of the invariant: what one CPU cycle and each register write keep of the channels and of the frame
sequencer.
-/

namespace Sys2Proof.Machine

/-! ## Length counters -/

/-- A disabled channel's length counter is 0, and no counter exceeds the length table's largest entry (R381, R389). -/
def LengthOk (enabled : Bool) (len : Byte) : Prop := (enabled = false → len = 0) ∧ len.toNat ≤ 254

theorem lengthOf_le (i : BitVec 5) : (lengthOf i).toNat ≤ 254 := by
  revert i
  decide

theorem LengthOk.clock {e : Bool} {len : Byte} (h : LengthOk e len) (halt : Bool) : LengthOk e (clockLength halt len) := by
  unfold clockLength
  split
  · rename_i hc
    have := h.2
    exact ⟨fun he => absurd (h.1 he) hc.1, by bv_omega⟩
  · exact h

theorem LengthOk.load {e : Bool} {len : Byte} (h : LengthOk e len) (i : BitVec 5) : LengthOk e (loadLength e i len) := by
  cases e with
  | false => exact h
  | true => exact ⟨nofun, lengthOf_le i⟩

theorem LengthOk.when {e : Bool} {len : Byte} (h : LengthOk e len) (b : Bool) : LengthOk b (lengthWhen b len) := by
  cases b with
  | false => exact ⟨fun _ => rfl, Nat.zero_le _⟩
  | true => exact ⟨nofun, h.2⟩

/-! ## Channels -/

/-- What the four channels keep (R381, R406, R408, R415). -/
structure ChannelsOk (s : ApuState) : Prop where
  pulse1 : LengthOk s.pulse1.enabled s.pulse1.len
  pulse2 : LengthOk s.pulse2.enabled s.pulse2.len
  triangle : LengthOk s.triangle.enabled s.triangle.len
  noise : LengthOk s.noise.enabled s.noise.len
  lfsr : s.noise.lfsr ≠ 0
  noiseTimer : s.noise.timer ≤ 2033

/-- The frame sequencer's fields are no part of it. -/
theorem ChannelsOk.congr {s t : ApuState} (h : ChannelsOk s) (h1 : t.pulse1 = s.pulse1) (h2 : t.pulse2 = s.pulse2)
    (h3 : t.triangle = s.triangle) (h4 : t.noise = s.noise) : ChannelsOk t :=
  ⟨by rw [h1]; exact h.pulse1, by rw [h2]; exact h.pulse2, by rw [h3]; exact h.triangle, by rw [h4]; exact h.noise,
    by rw [h4]; exact h.lfsr, by rw [h4]; exact h.noiseTimer⟩

theorem quarterFrame_channelsOk {s : ApuState} (h : ChannelsOk s) : ChannelsOk (quarterFrame s) :=
  ⟨h.pulse1, h.pulse2, h.triangle, h.noise, h.lfsr, h.noiseTimer⟩

theorem halfFrame_channelsOk {s : ApuState} (h : ChannelsOk s) : ChannelsOk (halfFrame s) :=
  ⟨h.pulse1.clock _, h.pulse2.clock _, h.triangle.clock _, h.noise.clock _, h.lfsr, h.noiseTimer⟩

theorem frameTick_channelsOk {s : ApuState} (h : ChannelsOk s) : ChannelsOk (frameTick s) := by
  have hq : ChannelsOk (if quarterAt s.fsMode (s.fsStep % frameSteps s.fsMode) then quarterFrame s else s) := by
    split
    · exact quarterFrame_channelsOk h
    · exact h
  dsimp only [frameTick]
  split
  · exact (halfFrame_channelsOk hq).congr rfl rfl rfl rfl
  · exact hq.congr rfl rfl rfl rfl

theorem frameReset_channelsOk {s : ApuState} (h : ChannelsOk s) : ChannelsOk (frameReset s) := by
  have h0 : ChannelsOk { s with fsDivider := 0, fsStep := 0 } := h.congr rfl rfl rfl rfl
  dsimp only [frameReset]
  split
  · exact h0
  · exact halfFrame_channelsOk (quarterFrame_channelsOk h0)

theorem clockPulseTimer_length (p : PulseState) :
    (clockPulseTimer p).enabled = p.enabled ∧ (clockPulseTimer p).len = p.len := by
  unfold clockPulseTimer
  split <;> exact ⟨rfl, rfl⟩

theorem clockTriangleTimer_length (t : TriangleState) :
    (clockTriangleTimer t).enabled = t.enabled ∧ (clockTriangleTimer t).len = t.len := by
  unfold clockTriangleTimer
  split <;> exact ⟨rfl, rfl⟩

/-- The shift register never becomes 0: a 1 in bit 0 alone is fed back to bit 14 (R408). -/
theorem stepLfsr_ne_zero {mode : Bool} {l : BitVec 15} (h : l ≠ 0) : stepLfsr mode l ≠ 0 := by
  intro h0
  have hbit : ∀ i, (stepLfsr mode l).getLsbD i = false := fun i => by rw [h0]; exact BitVec.getLsbD_zero
  have hhigh : ∀ i, l.getLsbD (i + 1) = false := fun i => by
    have := hbit i
    simp only [stepLfsr, BitVec.getLsbD_or, BitVec.getLsbD_ushiftRight, Bool.or_eq_false_iff] at this
    rw [Nat.add_comm]
    exact this.1
  have hlow : l.getLsbD 0 = false := by
    have h1 := hhigh 0
    have h6 := hhigh 5
    have h14 := hbit 14
    simp only [stepLfsr, BitVec.getLsbD_or, BitVec.getLsbD_shiftLeft, BitVec.getLsbD_setWidth, BitVec.getLsbD_ofBool,
      Bool.or_eq_false_iff, h1, h6, ite_self, Bool.xor_false] at h14
    simpa using h14.2
  refine h (BitVec.eq_of_getLsbD_eq fun i _ => ?_)
  cases i with
  | zero => exact hlow.trans BitVec.getLsbD_zero.symm
  | succ i => exact (hhigh i).trans BitVec.getLsbD_zero.symm

theorem noisePeriod_le (i : BitVec 4) : noisePeriod i ≤ 2034 := by
  revert i
  decide

/-- What the noise timer keeps (R407, R408). -/
theorem clockNoiseTimer_keeps {n : NoiseState} (hl : n.lfsr ≠ 0) (ht : n.timer ≤ 2033) :
    (clockNoiseTimer n).enabled = n.enabled ∧ (clockNoiseTimer n).len = n.len ∧ (clockNoiseTimer n).lfsr ≠ 0 ∧
      (clockNoiseTimer n).timer ≤ 2033 := by
  unfold clockNoiseTimer
  split
  · have := noisePeriod_le n.periodIndex
    exact ⟨rfl, rfl, stepLfsr_ne_zero hl, (by omega : noisePeriod n.periodIndex - 1 ≤ 2033)⟩
  · exact ⟨rfl, rfl, hl, (by omega : n.timer - 1 ≤ 2033)⟩

theorem clockTimers_channelsOk {s : ApuState} (h : ChannelsOk s) : ChannelsOk (clockTimers s) := by
  obtain ⟨e1, l1⟩ := clockPulseTimer_length s.pulse1
  obtain ⟨e2, l2⟩ := clockPulseTimer_length s.pulse2
  obtain ⟨e3, l3⟩ := clockTriangleTimer_length s.triangle
  obtain ⟨e4, l4, hl, ht⟩ := clockNoiseTimer_keeps h.lfsr h.noiseTimer
  have h3 : LengthOk (clockTriangleTimer s.triangle).enabled (clockTriangleTimer s.triangle).len := by
    rw [e3, l3]; exact h.triangle
  dsimp only [clockTimers]
  split
  · exact ⟨h.pulse1, h.pulse2, h3, h.noise, h.lfsr, h.noiseTimer⟩
  · refine ⟨?_, ?_, h3, ?_, hl, ht⟩
    · dsimp only; rw [e1, l1]; exact h.pulse1
    · dsimp only; rw [e2, l2]; exact h.pulse2
    · dsimp only; rw [e4, l4]; exact h.noise

/-! ## Channel registers -/

theorem writePulse_lengthOk {p : PulseState} (h : LengthOk p.enabled p.len) (r : Nat) (v : Byte) :
    LengthOk (writePulse r v p).enabled (writePulse r v p).len := by
  unfold writePulse
  split
  · exact h
  · exact h
  · exact h
  · exact h.load _

theorem writeTriangle_lengthOk {t : TriangleState} (h : LengthOk t.enabled t.len) (r : Nat) (v : Byte) :
    LengthOk (writeTriangle r v t).enabled (writeTriangle r v t).len := by
  unfold writeTriangle
  split
  · exact h
  · exact h
  · exact h
  · exact h.load _

/-- A write to the noise channel keeps its shift register and timer. -/
theorem writeNoise_keeps {n : NoiseState} (h : LengthOk n.enabled n.len) (r : Nat) (v : Byte) :
    LengthOk (writeNoise r v n).enabled (writeNoise r v n).len ∧ (writeNoise r v n).lfsr = n.lfsr ∧
      (writeNoise r v n).timer = n.timer := by
  unfold writeNoise
  split
  · exact ⟨h, rfl, rfl⟩
  · exact ⟨h, rfl, rfl⟩
  · exact ⟨h, rfl, rfl⟩
  · exact ⟨h.load _, rfl, rfl⟩

theorem writeChannel_channelsOk {s : ApuState} (h : ChannelsOk s) (r : Nat) (v : Byte) :
    ChannelsOk (writeChannel r v s) := by
  unfold writeChannel
  split
  · exact ⟨writePulse_lengthOk h.pulse1 _ _, h.pulse2, h.triangle, h.noise, h.lfsr, h.noiseTimer⟩
  · split
    · exact ⟨h.pulse1, writePulse_lengthOk h.pulse2 _ _, h.triangle, h.noise, h.lfsr, h.noiseTimer⟩
    · split
      · exact ⟨h.pulse1, h.pulse2, writeTriangle_lengthOk h.triangle _ _, h.noise, h.lfsr, h.noiseTimer⟩
      · split
        · obtain ⟨hlen, hl, ht⟩ := writeNoise_keeps h.noise (r - 12) v
          exact ⟨h.pulse1, h.pulse2, h.triangle, hlen, fun e => h.lfsr (hl ▸ e), ht ▸ h.noiseTimer⟩
        · exact h

theorem writeEnables_channelsOk {s : ApuState} (h : ChannelsOk s) (v : Byte) : ChannelsOk (writeEnables v s) :=
  ⟨h.pulse1.when _, h.pulse2.when _, h.triangle.when _, h.noise.when _, h.lfsr, h.noiseTimer⟩

/-! ## The frame sequencer -/

/-- The ranges of the frame sequencer (R385) and of the $4017 countdown, under a reset delay (R383). -/
structure SequencerOk (delay : Nat) (s : ApuState) : Prop where
  divider : s.fsDivider < 7457
  step : s.fsStep < 5
  countdown : s.resetCountdown ≤ delay

theorem frameSteps_pos (m : Bool) : 0 < frameSteps m ∧ frameSteps m ≤ 5 := by
  cases m <;> decide

/-- What the APU keeps whatever it does. -/
structure ApuOk (delay : Nat) (s : ApuState) : Prop where
  channels : ChannelsOk s
  sequencer : SequencerOk delay s

variable {delay : Nat} {s : ApuState}

theorem frameReset_ok (hc : ChannelsOk s) (hd : s.resetCountdown ≤ delay) : ApuOk delay (frameReset s) := by
  obtain ⟨-, -, h3, h4, -, h6⟩ := frameReset_keeps s
  exact ⟨frameReset_channelsOk hc, by omega, by omega, by omega⟩

theorem frameTick_ok (hc : ChannelsOk s) (hq : SequencerOk delay s) : ApuOk delay (frameTick s) := by
  obtain ⟨-, -, h3, h4, -, h6⟩ := frameTick_keeps s
  have hpos := frameSteps_pos s.fsMode
  have hlt := Nat.mod_lt (s.fsStep % frameSteps s.fsMode + 1) hpos.1
  exact ⟨frameTick_channelsOk hc, by rw [h3]; exact hq.divider, by omega, by rw [h4]; exact hq.countdown⟩

theorem clockCountdown_ok (h : ApuOk delay s) : ApuOk delay (clockCountdown s) := by
  obtain ⟨hc, hd, hs, hk⟩ := h
  unfold clockCountdown
  split
  · exact ⟨hc, hd, hs, hk⟩
  · split
    · exact frameReset_ok (s := { s with resetCountdown := 0 }) (hc.congr rfl rfl rfl rfl) (Nat.zero_le _)
    · exact ⟨hc.congr rfl rfl rfl rfl, hd, hs, (by omega : s.resetCountdown - 1 ≤ delay)⟩

theorem clockFrameDivider_ok (h : ApuOk delay s) : ApuOk delay (clockFrameDivider s) := by
  obtain ⟨hc, hd, hs, hk⟩ := h
  unfold clockFrameDivider
  split
  · exact frameTick_ok (s := { s with fsDivider := 0 }) (hc.congr rfl rfl rfl rfl)
      ⟨(by decide : 0 < 7457), hs, hk⟩
  · rename_i hne
    rw [framePeriod] at hne
    exact ⟨hc.congr rfl rfl rfl rfl, (by omega : s.fsDivider + 1 < 7457), hs, hk⟩

theorem clockTimers_ok (h : ApuOk delay s) : ApuOk delay (clockTimers s) := by
  obtain ⟨-, -, h3, h4, h5, -⟩ := clockTimers_keeps s
  obtain ⟨hc, hd, hs, hk⟩ := h
  exact ⟨clockTimers_channelsOk hc, by omega, by omega, by omega⟩

theorem apuCycle_ok (h : ApuOk delay s) : ApuOk delay (apuCycle s) :=
  clockTimers_ok (clockFrameDivider_ok (clockCountdown_ok h))

theorem apuRun_ok (c : Nat) (h : ApuOk delay s) : ApuOk delay (apuRun c s) :=
  apuRun_keeps (P := ApuOk delay) (fun _ => apuCycle_ok) c s h

theorem writeChannel_ok (h : ApuOk delay s) (r : Nat) (v : Byte) : ApuOk delay (writeChannel r v s) := by
  refine ⟨writeChannel_channelsOk h.channels r v, ?_⟩
  obtain ⟨-, hd, hs, hk⟩ := h
  unfold writeChannel
  split_ifs <;> exact ⟨hd, hs, hk⟩

theorem writeEnables_ok (h : ApuOk delay s) (v : Byte) : ApuOk delay (writeEnables v s) :=
  ⟨writeEnables_channelsOk h.channels v, h.sequencer.divider, h.sequencer.step, h.sequencer.countdown⟩

theorem writeFrameCounter_ok (h : ApuOk delay s) (v : Byte) : ApuOk delay (writeFrameCounter delay v s) := by
  obtain ⟨hc, hd, hs, hk⟩ := h
  have hc1 : ChannelsOk { s with fsMode := v.getLsbD 7, irqInhibit := v.getLsbD 6, resetCountdown := delay } :=
    hc.congr rfl rfl rfl rfl
  dsimp only [writeFrameCounter]
  split
  · exact frameReset_ok hc1 (le_refl _)
  · exact ⟨hc1, hd, hs, le_refl _⟩

/-! ## Parity and samples -/

theorem frameTick_parity (s : ApuState) : (frameTick s).parity = s.parity := by
  obtain ⟨-, -, -, -, h, -⟩ := frameTick_keeps s
  exact h

theorem frameReset_parity (s : ApuState) : (frameReset s).parity = s.parity := by
  obtain ⟨-, -, -, -, h, -⟩ := frameReset_keeps s
  exact h

theorem clockCountdown_parity (s : ApuState) : (clockCountdown s).parity = s.parity := by
  unfold clockCountdown
  split_ifs
  · rfl
  · exact frameReset_parity _
  · rfl

theorem clockFrameDivider_parity (s : ApuState) : (clockFrameDivider s).parity = s.parity := by
  unfold clockFrameDivider
  split
  · exact frameTick_parity _
  · rfl

/-- A CPU cycle turns the parity (R384). -/
theorem apuCycle_parity (s : ApuState) : (apuCycle s).parity = !s.parity := by
  obtain ⟨-, -, -, -, -, h⟩ := clockTimers_keeps (clockFrameDivider (clockCountdown s))
  rw [apuCycle, h, clockFrameDivider_parity, clockCountdown_parity]

/-- The parity follows the cycle counter. -/
theorem apuRun_parity (c n : Nat) {s : ApuState} (h : s.parity = decide (n % 2 = 1)) :
    (apuRun c s).parity = decide ((n + c) % 2 = 1) := by
  induction c with
  | zero => exact h
  | succ c ih =>
    rw [apuRun_succ, apuCycle_parity, ih, ← Nat.add_assoc, ← decide_not, decide_eq_decide]
    omega

theorem length_apuSamples : ∀ (c : Nat) (s : ApuState), (apuSamples c s).length = c
  | 0, _ => rfl
  | c + 1, s => by rw [apuSamples, List.length_cons, length_apuSamples c]

/-- A write to a register of the APU leaves the parity. -/
theorem writeChannel_parity (r : Nat) (v : Byte) (s : ApuState) : (writeChannel r v s).parity = s.parity := by
  unfold writeChannel
  split_ifs <;> rfl

theorem writeFrameCounter_parity (d : Nat) (v : Byte) (s : ApuState) : (writeFrameCounter d v s).parity = s.parity := by
  dsimp only [writeFrameCounter]
  split
  · exact frameReset_parity _
  · rfl

end Sys2Proof.Machine
end

section
/-!
PROOFS. The mapper's part of the invariant: what `Remap()` writes does not depend on the windows it finds, so it agrees with itself;
a write to the mapper and the mapper's power-up leave windows that agree with the registers and lie inside the images.
-/

namespace Sys2Proof.Machine

/-- A guarded operation that completes passed its guard. -/
theorem of_guard_eq_next {α : Type} {c : Prop} [Decidable c] {e : Fault} {x y : α}
    (h : (if c then .fault e else .next x : Out α) = .next y) : ¬c ∧ y = x := by
  split at h
  · cases h
  · cases h
    exact ⟨‹_›, rfl⟩

/-! ## `Remap()` -/

/-- `Remap()`'s PRG half writes two offsets inside the image, whatever the windows were (R116). -/
theorem mmc1RemapPrg_writes {size : Nat} {r : Mmc1} {w w' : Windows} (h : mmc1RemapPrg size r w = .next w') :
    ∃ lo hi, lo + 16384 ≤ size ∧ hi + 16384 ≤ size ∧
      ∀ v, mmc1RemapPrg size r v = .next { v with prgLo := lo, prgHi := hi } := by
  have hboth {o : Nat} (h : mapPrgBoth size o w = .next w') : ∃ lo hi, lo + 16384 ≤ size ∧ hi + 16384 ≤ size ∧
      ∀ v, mapPrgBoth size o v = .next { v with prgLo := lo, prgHi := hi } := by
    have hfit := (of_guard_eq_next h).1
    rw [prgWindow] at hfit
    exact ⟨o, o + 16384, by omega, by omega, fun v => mapPrgBoth_eq (by omega)⟩
  have htwo {lo hi : Nat} (h : (andThen (mapPrgLo size lo w) fun w1 => mapPrgHi size hi w1) = .next w') :
      ∃ lo' hi', lo' + 16384 ≤ size ∧ hi' + 16384 ≤ size ∧
        ∀ v, (andThen (mapPrgLo size lo v) fun w1 => mapPrgHi size hi w1) =
          .next { v with prgLo := lo', prgHi := hi' } := by
    obtain ⟨w1, h1, h2⟩ := andThen_eq_next.1 h
    have hlo := (of_guard_eq_next h1).1
    have hhi := (of_guard_eq_next h2).1
    rw [prgWindow] at hlo hhi
    exact ⟨lo, hi, by omega, by omega, fun v => by
      rw [mapPrgLo_eq (by omega), andThen_next, mapPrgHi_eq (by omega)]⟩
  unfold mmc1RemapPrg at h ⊢
  dsimp only at h ⊢
  split at h
  · exact hboth h
  · exact hboth h
  · exact htwo h
  · exact htwo h

/-- `Remap()`'s CHR half writes nothing with CHR-RAM, else two offsets inside the image, whatever the windows were (R116). -/
theorem mmc1RemapChr_writes {size : Nat} {r : Mmc1} {w w' : Windows} (h : mmc1RemapChr size r w = .next w') :
    (size = 0 ∧ ∀ v, mmc1RemapChr size r v = .next v) ∨
      ∃ c0 c1, c0 + 4096 ≤ size ∧ c1 + 4096 ≤ size ∧
        ∀ v, mmc1RemapChr size r v = .next { v with chr0 := c0, chr1 := c1 } := by
  have htwo {c0 c1 : Nat} (h : (andThen (mapChr0 size c0 w) fun w1 => mapChr1 size c1 w1) = .next w') :
      ∃ c0' c1', c0' + 4096 ≤ size ∧ c1' + 4096 ≤ size ∧
        ∀ v, (andThen (mapChr0 size c0 v) fun w1 => mapChr1 size c1 w1) =
          .next { v with chr0 := c0', chr1 := c1' } := by
    obtain ⟨w1, h1, h2⟩ := andThen_eq_next.1 h
    have hc0 := (of_guard_eq_next h1).1
    have hc1 := (of_guard_eq_next h2).1
    rw [chrWindow] at hc0 hc1
    exact ⟨c0, c1, by omega, by omega, fun v => by
      rw [mapChr0_eq (by omega), andThen_next, mapChr1_eq (by omega)]⟩
  by_cases h0 : size = 0
  · exact .inl ⟨h0, fun v => if_pos h0⟩
  · simp only [mmc1RemapChr, if_neg h0] at h ⊢
    right
    by_cases hb : r.control.getLsbD 4 = false
    · simp only [if_pos hb] at h ⊢
      exact htwo h
    · simp only [if_neg hb] at h ⊢
      exact htwo h

/-- The windows lie inside the images (R105, R106). -/
def WindowsInside (f : NesFile) (w : Windows) : Prop :=
  w.prgLo + 16384 ≤ f.prg.size ∧ w.prgHi + 16384 ≤ f.prg.size ∧
    (f.chr.size = 0 ∨ (w.chr0 + 4096 ≤ f.chr.size ∧ w.chr1 + 4096 ≤ f.chr.size))

/-- The windows that `Remap()` leaves are where it puts them again, and inside the images. -/
theorem mmc1Remap_settles {f : NesFile} {r : Mmc1} {w w' : Windows} (h : mmc1Remap f r w = .next w') :
    mmc1Remap f r w' = .next w' ∧ WindowsInside f w' := by
  obtain ⟨w1, h1, h2⟩ := andThen_eq_next.1 h
  obtain ⟨lo, hi, hlo, hhi, hprg⟩ := mmc1RemapPrg_writes h1
  cases (hprg w).symm.trans h1
  rcases mmc1RemapChr_writes h2 with ⟨h0, hchr⟩ | ⟨c0, c1, hc0, hc1, hchr⟩
  · cases (hchr _).symm.trans h2
    exact ⟨by rw [mmc1Remap, hprg, andThen_next, hchr], hlo, hhi, .inl h0⟩
  · cases (hchr _).symm.trans h2
    exact ⟨by rw [mmc1Remap, hprg, andThen_next, hchr], hlo, hhi, .inr ⟨hc0, hc1⟩⟩

/-! ## Writes -/

/-- The image is canonical and holds no byte past its size (R100). -/
def Image.Canonical (im : Image) : Prop := im.cells.wf = true ∧ im.cells.below im.size = true

theorem cartridgeSound_nes {s : State} {f : NesFile} (hc : s.cart = .nes f) :
    cartridgeSound s ↔ WindowsInside f s.windows ∧ f.prg.Canonical ∧ f.chr.Canonical := by
  simp only [cartridgeSound, hc, WindowsInside, Image.Canonical, and_assoc]

theorem mapperAgrees_nrom {s : State} {f : NesFile} (hc : s.cart = .nes f) (hm : s.mapper = .nrom) :
    mapperAgrees s ↔ (f.prg.size = 16384 ∧ s.windows.prgLo = 0 ∧ s.windows.prgHi = 0) ∨
      (f.prg.size = 32768 ∧ s.windows.prgLo = 0 ∧ s.windows.prgHi = 16384) := by
  simp only [mapperAgrees, hc, hm]

theorem mapperAgrees_mmc1 {s : State} {f : NesFile} {r : Mmc1} (hc : s.cart = .nes f) (hm : s.mapper = .mmc1 r) :
    mapperAgrees s ↔ r.count ≤ 4 ∧ mmc1Remap f r s.windows = .next s.windows := by
  simp only [mapperAgrees, hc, hm]

theorem mapperAgrees_uxrom {s : State} {f : NesFile} {b : Byte} (hc : s.cart = .nes f) (hm : s.mapper = .uxrom b) :
    mapperAgrees s ↔ (b.toNat + 1) * 16384 ≤ f.prg.size ∧ s.windows.prgLo = b.toNat * 16384 ∧
      s.windows.prgHi = f.prg.size - 16384 := by
  simp only [mapperAgrees, hc, hm]

/-- An MMC1 write keeps the count at most 4, and leaves windows where the registers say and inside the images (R112 to
R114). -/
theorem mmc1Write_keeps {f : NesFile} {a : Addr} {v : Byte} {r r' : Mmc1} {w w' : Windows} (hn : r.count ≤ 4)
    (hr : mmc1Remap f r w = .next w) (h : mmc1Write f a v r w = .next (r', w')) :
    r'.count ≤ 4 ∧ mmc1Remap f r' w' = .next w' ∧ WindowsInside f w' := by
  have hin := (mmc1Remap_settles hr).2
  unfold mmc1Write at h
  split at h
  · cases h
    exact ⟨Nat.zero_le _, (mmc1Remap_congr rfl rfl rfl rfl).trans hr, hin⟩
  · split at h
    · obtain ⟨w1, h1, h2⟩ := andThen_eq_next.1 h
      cases h2
      exact ⟨Nat.zero_le _, mmc1Remap_settles h1⟩
    · cases h
      exact ⟨(by omega : r.count + 1 ≤ 4), (mmc1Remap_congr rfl rfl rfl rfl).trans hr, hin⟩

/-- A write to the mapper keeps the mapper's part of the invariant (R64). -/
theorem mapperWrite_keeps {s : State} {f : NesFile} {a : Addr} {v : Byte} {m : MapperState} {w : Windows}
    (hc : s.cart = .nes f) (ha : mapperAgrees s) (hs : cartridgeSound s)
    (h : mapperWrite f a v s.mapper s.windows = .next (m, w)) :
    mapperAgrees (s.setMapper m w) ∧ cartridgeSound (s.setMapper m w) := by
  have hc' : (s.setMapper m w).cart = .nes f := hc
  obtain ⟨hin, himages⟩ := (cartridgeSound_nes hc).1 hs
  cases hm : s.mapper with
  | nrom => rw [hm] at h; cases h
  | nsf _ _ => rw [hm] at h; cases h
  | mmc1 r =>
    rw [hm] at h
    obtain ⟨⟨r', w1⟩, h1, h2⟩ := andThen_eq_next.1 h
    cases h2
    obtain ⟨hn, hr⟩ := (mapperAgrees_mmc1 hc hm).1 ha
    obtain ⟨hn', hr', hin'⟩ := mmc1Write_keeps hn hr h1
    exact ⟨(mapperAgrees_mmc1 hc' rfl).2 ⟨hn', hr'⟩, (cartridgeSound_nes hc').2 ⟨hin', himages⟩⟩
  | uxrom b =>
    rw [hm] at h
    obtain ⟨w1, h1, h2⟩ := andThen_eq_next.1 h
    cases h2
    obtain ⟨hfit, rfl⟩ := of_guard_eq_next h1
    rw [prgWindow] at hfit
    obtain ⟨-, -, hhi⟩ := (mapperAgrees_uxrom hc hm).1 ha
    exact ⟨(mapperAgrees_uxrom hc' rfl).2 ⟨by omega, rfl, hhi⟩,
      (cartridgeSound_nes hc').2 ⟨⟨by simp only [State.setMapper_windows, prgWindow]; omega, hin.2⟩, himages⟩⟩

/-- A write to an NSF bank register keeps the mapper's part of the invariant (R123). -/
theorem nsfBankWrite_keeps {s : State} (hn : s.isNsf = true) (i : Nat) (v : Byte) (ha : mapperAgrees s) :
    mapperAgrees (s.setMapper (nsfBankWrite i v s.mapper) s.windows) := by
  cases hc : s.cart with
  | nes f => simp [State.isNsf, hc] at hn
  | nsf f =>
    cases hm : s.mapper with
    | nsf banks banked => simp only [mapperAgrees, State.setMapper_cart, hc, State.setMapper_mapper, nsfBankWrite]
    | nrom | mmc1 _ | uxrom _ => simp [mapperAgrees, hc, hm] at ha

/-! ## Power-up -/

/-- NROM's CHR rule keeps the PRG windows and leaves the CHR windows inside the image (R109). -/
theorem initChr_keeps {size : Nat} {w w' : Windows} (h : initChr size w = .next w') :
    w'.prgLo = w.prgLo ∧ w'.prgHi = w.prgHi ∧ (size = 0 ∨ (w'.chr0 + 4096 ≤ size ∧ w'.chr1 + 4096 ≤ size)) := by
  unfold initChr at h
  split at h
  · cases h
    exact ⟨rfl, rfl, .inl ‹_›⟩
  · obtain ⟨hfit, rfl⟩ := of_guard_eq_next h
    rw [chrWindow] at hfit
    exact ⟨rfl, rfl, .inr ⟨(by omega : 0 + 4096 ≤ size), (by omega : 4096 + 4096 ≤ size)⟩⟩

/-- NROM starts with one bank in both windows or with two banks, and its CHR windows inside the image (R109). -/
theorem initNrom_windows {f : NesFile} {m : MapperState} {w : Windows} (h : initNrom f = .next (m, w)) :
    m = .nrom ∧
      ((f.prg.size = 16384 ∧ w.prgLo = 0 ∧ w.prgHi = 0) ∨ (f.prg.size = 32768 ∧ w.prgLo = 0 ∧ w.prgHi = 16384)) ∧
      WindowsInside f w := by
  unfold initNrom at h
  split at h
  · rename_i hsize
    obtain ⟨w, h1, h2⟩ := andThen_eq_next.1 h
    cases h2
    obtain ⟨hlo, hhi, hchr⟩ := initChr_keeps h1
    simp only [prgWindow] at hsize hlo hhi
    exact ⟨rfl, .inl ⟨hsize, hlo, hhi⟩, by omega, by omega, hchr⟩
  · split at h
    · rename_i hsize
      obtain ⟨w, h1, h2⟩ := andThen_eq_next.1 h
      cases h2
      obtain ⟨hlo, hhi, hchr⟩ := initChr_keeps h1
      simp only [prgWindow] at hsize hlo hhi
      exact ⟨rfl, .inr ⟨hsize, hlo, hhi⟩, by omega, by omega, hchr⟩
    · cases h

/-- UxROM starts with its first bank low and its last bank high, and its CHR windows inside the image (R119). -/
theorem initUxrom_windows {f : NesFile} {m : MapperState} {w : Windows} (h : initUxrom f = .next (m, w)) :
    m = .uxrom 0 ∧ w.prgLo = 0 ∧ w.prgHi = f.prg.size - 16384 ∧ WindowsInside f w := by
  obtain ⟨w1, h1, h⟩ := andThen_eq_next.1 h
  obtain ⟨w2, h2, h⟩ := andThen_eq_next.1 h
  obtain ⟨w3, h3, h⟩ := andThen_eq_next.1 h
  cases h
  obtain ⟨hfit1, rfl⟩ := of_guard_eq_next h1
  obtain ⟨hfit2, rfl⟩ := of_guard_eq_next h2
  obtain ⟨hlo, hhi, hchr⟩ := initChr_keeps h3
  simp only [prgWindow] at hfit1 hfit2 hlo hhi
  exact ⟨rfl, hlo, hhi, by omega, by omega, hchr⟩

/-- In a state that a power-up's mapper and windows stand in, the mapper's registers and windows agree, and the windows lie
inside the images (R103). -/
theorem powerUpMapper_nes {s : State} {f : NesFile} {mw : MapperState × Windows}
    (h : powerUpMapper (.nes f) = .next mw) (hc : s.cart = .nes f) (hm : s.mapper = mw.1) (hw : s.windows = mw.2) :
    mapperAgrees s ∧ WindowsInside f s.windows := by
  obtain ⟨m, w⟩ := mw
  subst hw
  simp only [powerUpMapper] at h
  split at h
  · obtain ⟨rfl, hprg, hin⟩ := initNrom_windows h
    exact ⟨(mapperAgrees_nrom hc hm).2 hprg, hin⟩
  · obtain ⟨w, h1, h2⟩ := andThen_eq_next.1 h
    cases h2
    obtain ⟨hr, hin⟩ := mmc1Remap_settles h1
    exact ⟨(mapperAgrees_mmc1 hc hm).2 ⟨Nat.zero_le _, hr⟩, hin⟩
  · obtain ⟨rfl, hlo, hhi, hin⟩ := initUxrom_windows h
    have ⟨_, hfit, _⟩ := hin
    exact ⟨(mapperAgrees_uxrom hc hm).2 ⟨(by omega : (0 + 1) * 16384 ≤ f.prg.size), hlo, hhi⟩, hin⟩
  · cases h

/-! ## Images of a container -/

/-- An image cut from a container is canonical (R101, R121). -/
theorem imageAt_canonical (file : List Byte) (i n : Nat) : (imageAt file i n).Canonical :=
  ⟨Memory.wf_ofBytes n _, Memory.below_ofBytes n _⟩

theorem parseNes_canonical {file : List Byte} {f : NesFile} (h : parseNes file = .next f) :
    f.prg.Canonical ∧ f.chr.Canonical := by
  unfold parseNes at h
  split at h
  · cases h
  · obtain ⟨-, rfl⟩ := of_guard_eq_next h
    exact ⟨imageAt_canonical .., imageAt_canonical ..⟩

theorem parseNsf_canonical {file : List Byte} {f : NsfFile} (h : parseNsf file = .next f) : f.data.Canonical := by
  unfold parseNsf at h
  split at h
  · cases h
  · obtain ⟨-, rfl⟩ := of_guard_eq_next h
    exact imageAt_canonical ..

end Sys2Proof.Machine
end

section
/-!
PROOFS. Every step keeps the invariant. `Sound` is the invariant without the B bits: it does not look at the registers. Register
writes, reads and stores keep it, so a row of touches does; the devices' advance keeps it, and a power-up state meets it.
-/

namespace Sys2Proof.Machine

/-- The invariant but for the B bits: what holds of memories, devices and cartridge. -/
structure Sound (s : State) : Prop where
  memory : MemoryInv s
  ppu : PpuInv s
  apu : ApuInv s
  mapper : mapperAgrees s
  cartridge : cartridgeSound s

theorem inv_iff {s : State} : Inv s ↔ s.p &&& 0x30 = 0x30 ∧ Sound s :=
  ⟨fun ⟨hb, hm, hp, ha, hr, hc⟩ => ⟨hb, hm, hp, ha, hr, hc⟩, fun ⟨hb, hm, hp, ha, hr, hc⟩ => ⟨hb, hm, hp, ha, hr, hc⟩⟩

/-! ## What each part looks at -/

section
variable {s t : State}

theorem MemoryInv.congr (h : MemoryInv s) (hr : t.ram = s.ram) (hp : t.prgRam = s.prgRam) (hq : t.params = s.params)
    (hc : t.ppu.chrRam = s.ppu.chrRam) (hn : t.ppu.nametables = s.ppu.nametables) : MemoryInv t :=
  ⟨by rw [hr]; exact h.ram, by rw [hp]; exact h.prgRam, by rw [hp, hq]; exact h.prgRamPresent,
    by rw [hc]; exact h.chrRam, by rw [hn]; exact h.nametables⟩

theorem PpuInv.congr (h : PpuInv s) (hp : t.ppu = s.ppu) (hi : t.isNsf = s.isNsf) (hc : t.cycles = s.cycles)
    (hn : t.nmiPending = s.nmiPending) : PpuInv t :=
  ⟨by rw [hp]; exact h.scanline, by rw [hp]; exact h.dot, by rw [hp, hi, hc]; exact h.position,
    by rw [hp]; exact h.vblank, by rw [hp, hi, hn]; exact h.noPpu⟩

/-- The APU's ranges and the parity, the samples aside. -/
theorem ApuInv.ok (h : ApuInv s) : ApuOk s.params.frameResetDelay s.apu := by
  obtain ⟨l1, l2, l3, l4⟩ := h.lengths
  exact ⟨⟨⟨h.disabled1, l1⟩, ⟨h.disabled2, l2⟩, ⟨h.disabledTriangle, l3⟩, ⟨h.disabledNoise, l4⟩, h.lfsr, h.noiseTimer⟩,
    h.fsDivider, h.fsStep, h.countdown⟩

theorem ApuInv.of_ok (h : ApuOk s.params.frameResetDelay s.apu) (hp : s.apu.parity = decide (s.cycles % 2 = 1))
    (hl : s.audio.length = s.cycles) (hs : s.out.samples.reverse <+: s.audio) : ApuInv s := by
  obtain ⟨⟨⟨d1, l1⟩, ⟨d2, l2⟩, ⟨d3, l3⟩, ⟨d4, l4⟩, hlfsr, htimer⟩, hdiv, hstep, hcount⟩ := h
  exact ⟨hdiv, hstep, hcount, hp, hlfsr, htimer, d1, d2, d3, d4, ⟨l1, l2, l3, l4⟩, hl, hs⟩

theorem ApuInv.congr (h : ApuInv s) (ha : t.apu = s.apu) (hq : t.params = s.params) (hc : t.cycles = s.cycles)
    (hu : t.audio = s.audio) (ho : t.out = s.out) : ApuInv t :=
  .of_ok (by rw [ha, hq]; exact h.ok) (by rw [ha, hc]; exact h.parity) (by rw [hu, hc]; exact h.samples)
    (by rw [ho, hu]; exact h.lastSamples)

end

/-! ## The devices' advance -/

section
variable {s : State}

theorem ppuAdvance_of_nsf (c : Nat) (h : s.isNsf = true) :
    ppuAdvance c s = { ppu := s.ppu, nmi := false, frame := false } := if_pos h

theorem ppuAdvance_of_nes (c : Nat) (h : s.isNsf = false) : ppuAdvance c s = ppuRun c s.ppu :=
  if_neg (Bool.not_eq_true _ ▸ h)

/-- The advance keeps the PPU's RAMs. -/
theorem ppuAdvance_rams (c : Nat) (s : State) :
    (ppuAdvance c s).ppu.chrRam = s.ppu.chrRam ∧ (ppuAdvance c s).ppu.nametables = s.ppu.nametables := by
  cases h : s.isNsf with
  | true => rw [ppuAdvance_of_nsf c h]; exact ⟨rfl, rfl⟩
  | false => rw [ppuAdvance_of_nes c h]; exact dotTicks_rams _ _

theorem advanceDevices_nmiPending (c : Nat) (s : State) :
    (advanceDevices c s).nmiPending = (s.nmiPending || (ppuAdvance c s).nmi) := rfl

/-- Three dots a cycle keep the position at three dots per cycle (R362); in NSF mode the PPU stands still. -/
theorem PpuInv.advance (h : PpuInv s) (c : Nat) : PpuInv (advanceDevices c (addCycles c s)) := by
  cases hn : (addCycles c s).isNsf with
  | true =>
    have hppu : (advanceDevices c (addCycles c s)).ppu = s.ppu := by
      rw [advanceDevices_ppu, ppuAdvance_of_nsf c hn]; rfl
    have hnmi : (advanceDevices c (addCycles c s)).nmiPending = s.nmiPending := by
      rw [advanceDevices_nmiPending, ppuAdvance_of_nsf c hn, Bool.or_false]; rfl
    refine ⟨?_, ?_, fun e => absurd (hn.symm.trans e) (by decide), ?_, fun _ => ?_⟩
    · rw [hppu]; exact h.scanline
    · rw [hppu]; exact h.dot
    · rw [hppu]; exact h.vblank
    · rw [hppu, hnmi]; exact h.noPpu hn
  | false =>
    have hin : InFrame s.ppu := ⟨h.scanline, h.dot, h.vblank⟩
    have hppu : (advanceDevices c (addCycles c s)).ppu = (ppuRun c s.ppu).ppu := by
      rw [advanceDevices_ppu, ppuAdvance_of_nes c hn]; rfl
    obtain ⟨hscanline, hdot, hvblank⟩ : InFrame (advanceDevices c (addCycles c s)).ppu := by
      rw [hppu]; exact dotTicks_inFrame (3 * c) hin
    refine ⟨hscanline, hdot, fun _ => ?_, hvblank, fun e => absurd (hn.symm.trans e) (by decide)⟩
    rw [hppu, ppuRun, dotTicks_framePosition _ hin, h.position hn, Nat.mod_add_mod, ← Nat.mul_add]
    rfl

/-- The APU's cycles keep its ranges, and add as many samples (R384). -/
theorem ApuInv.advance (h : ApuInv s) (c : Nat) : ApuInv (advanceDevices c (addCycles c s)) := by
  refine .of_ok (apuRun_ok c h.ok) (apuRun_parity c s.cycles h.parity) ?_ ⟨s.audio, rfl⟩
  rw [advanceDevices_audio, List.length_append, List.length_reverse, length_apuSamples, Nat.add_comm]
  exact congrArg (· + c) h.samples

end

/-! ## The touches -/

namespace Sound

variable {s t : State}

/-- The registers, the run state, the controller port and the host's side are no part of the invariant. -/
theorem unchecked (h : Sound s) (a x y sp : Byte) (pc : Addr) (p : Byte) (run : RunState) (pad : PadState)
    (buttons : Byte) (queue : List HostMove) (draws : Nat) :
    Sound { s with a := a, x := x, y := y, sp := sp, pc := pc, p := p, run := run, pad := pad, buttons := buttons,
                   hostQueue := queue, drawCount := draws } :=
  ⟨h.memory.congr rfl rfl rfl rfl rfl, h.ppu.congr rfl rfl rfl rfl, h.apu.congr rfl rfl rfl rfl rfl, h.mapper, h.cartridge⟩

theorem registers (h : Sound s) (a x y sp : Byte) (pc : Addr) (p : Byte) :
    Sound { s with a := a, x := x, y := y, sp := sp, pc := pc, p := p } :=
  h.unchecked a x y sp pc p s.run s.pad s.buttons s.hostQueue s.drawCount

theorem setPad (h : Sound s) (p : PadState) : Sound (s.setPad p) :=
  h.unchecked s.a s.x s.y s.sp s.pc s.p s.run p s.buttons s.hostQueue s.drawCount

theorem countDraw (h : Sound s) : Sound s.countDraw :=
  h.unchecked s.a s.x s.y s.sp s.pc s.p s.run s.pad s.buttons s.hostQueue (s.drawCount + 1)

theorem host (h : Sound s) (buttons : Byte) (queue : List HostMove) (run : RunState) (pc : Addr) :
    Sound { s with buttons := buttons, hostQueue := queue, run := run, pc := pc } :=
  h.unchecked s.a s.x s.y s.sp pc s.p run s.pad buttons queue s.drawCount

theorem setRam (h : Sound s) {i : Nat} (hi : i < 2048) (v : Byte) : Sound (s.setRam i v) :=
  ⟨⟨⟨Memory.wf_write i v h.memory.ram.1, Memory.below_write v h.memory.ram.2 hi⟩, h.memory.prgRam,
      h.memory.prgRamPresent, h.memory.chrRam, h.memory.nametables⟩,
    h.ppu.congr rfl rfl rfl rfl, h.apu.congr rfl rfl rfl rfl rfl, h.mapper, h.cartridge⟩

theorem setPrgRam (h : Sound s) {i : Nat} (hi : i < 8192) (v : Byte) : Sound (s.setPrgRam i v) := by
  refine ⟨⟨h.memory.ram, fun m hm => ?_, ?_, h.memory.chrRam, h.memory.nametables⟩,
    h.ppu.congr rfl rfl rfl rfl, h.apu.congr rfl rfl rfl rfl rfl, h.mapper, h.cartridge⟩
  · obtain ⟨m0, h0, rfl⟩ := Option.map_eq_some_iff.1 hm
    obtain ⟨hwf, hbelow⟩ := h.memory.prgRam m0 h0
    exact ⟨Memory.wf_write i v hwf, Memory.below_write v hbelow hi⟩
  · rw [State.setPrgRam_prgRam, Option.isSome_map]
    exact h.memory.prgRamPresent

/-- A PPU register access keeps the position and the RAMs, and sets no vblank (R350 to R353, R359). -/
theorem setPpu (h : Sound s) (hn : s.isNsf = false) {q : PpuState} (hs : q.scanline = s.ppu.scanline)
    (hd : q.dot = s.ppu.dot) (hv : q.vblank = true → s.ppu.vblank = true) (hc : q.chrRam = s.ppu.chrRam)
    (ht : q.nametables = s.ppu.nametables) : Sound (s.setPpu q) := by
  have hpos : framePosition q = framePosition s.ppu := by rw [framePosition, hs, hd, framePosition]
  refine ⟨h.memory.congr rfl rfl rfl hc ht, ⟨?_, ?_, fun _ => ?_, fun e => ?_, fun e => ?_⟩,
    h.apu.congr rfl rfl rfl rfl rfl, h.mapper, h.cartridge⟩
  · rw [State.setPpu_ppu, hs]; exact h.ppu.scanline
  · rw [State.setPpu_ppu, hd]; exact h.ppu.dot
  · rw [State.setPpu_ppu, hpos]; exact h.ppu.position hn
  · rw [State.setPpu_ppu, hpos]; exact h.ppu.vblank (hv e)
  · exact absurd (hn.symm.trans e) (by decide)

/-- An APU register write keeps the ranges and the parity. -/
theorem setApu (h : Sound s) {q : ApuState} (hq : ApuOk s.params.frameResetDelay q) (hp : q.parity = s.apu.parity) :
    Sound (s.setApu q) :=
  ⟨h.memory.congr rfl rfl rfl rfl rfl, h.ppu.congr rfl rfl rfl rfl,
    .of_ok hq (hp.trans h.apu.parity) h.apu.samples h.apu.lastSamples, h.mapper, h.cartridge⟩

theorem setMapper (h : Sound s) {m : MapperState} {w : Windows} (hm : mapperAgrees (s.setMapper m w))
    (hc : cartridgeSound (s.setMapper m w)) : Sound (s.setMapper m w) :=
  ⟨h.memory.congr rfl rfl rfl rfl rfl, h.ppu.congr rfl rfl rfl rfl, h.apu.congr rfl rfl rfl rfl rfl, hm, hc⟩

theorem read (h : Sound s) {a : Addr} {b : Byte} (hr : memRead a s = .next (b, t)) : Sound t := by
  rcases memRead_effect hr with rfl | ⟨hppu, rfl⟩ | ⟨-, rfl⟩ | ⟨-, rfl⟩
  · exact h
  · exact h.setPpu (regionOf_ppu_lt hppu).2 rfl rfl nofun rfl rfl
  · exact (h.setPad _).countDraw
  · exact h.countDraw

theorem store (h : Sound s) {a : Addr} {v : Byte} (hw : memWrite a v s = .next t) : Sound t := by
  cases memWrite_effect hw with
  | ram hr => exact h.setRam (regionOf_ram_lt hr) v
  | ppu p hr hp =>
    have hn := (regionOf_ppu_lt hr).2
    rcases hp with rfl | rfl | rfl <;> exact h.setPpu hn rfl rfl id rfl rfl
  | channel => exact h.setApu (writeChannel_ok h.apu.ok _ v) (writeChannel_parity _ v _)
  | enables => exact h.setApu (writeEnables_ok h.apu.ok v) rfl
  | strobe => exact h.setPad _
  | frameCounter => exact h.setApu (writeFrameCounter_ok h.apu.ok v) (writeFrameCounter_parity _ v _)
  | nsfBank hr =>
    have hat := regionOf_at s a
    rw [hr] at hat
    obtain ⟨-, -, hn, -⟩ := hat
    exact h.setMapper (nsfBankWrite_keeps hn _ v h.mapper) h.cartridge
  | prgRam hr => exact h.setPrgRam (regionOf_prgRam_lt hr).1 v
  | mapper hr hc hm =>
    obtain ⟨ha, hs⟩ := mapperWrite_keeps hc h.mapper h.cartridge hm
    exact h.setMapper ha hs

theorem touches (h : Sound s) (ht : Touches s t) : Sound t := by
  induction ht with
  | refl => exact h
  | registers a x y sp pc p _ ih => exact ih.registers a x y sp pc p
  | read _ hr ih => exact ih.read hr
  | store _ hw ih => exact ih.store hw

/-! The system step. -/

/-- Taking the pending NMI, or not. -/
theorem setNmi (h : Sound s) {n : Bool} (hn : n = s.nmiPending ∨ n = false) : Sound { s with nmiPending := n } := by
  refine ⟨h.memory.congr rfl rfl rfl rfl rfl, ⟨h.ppu.scanline, h.ppu.dot, h.ppu.position, h.ppu.vblank, fun e => ?_⟩,
    h.apu.congr rfl rfl rfl rfl rfl, h.mapper, h.cartridge⟩
  obtain ⟨hnone, hppu⟩ := h.ppu.noPpu e
  exact ⟨hn.elim (·.trans hnone) id, hppu⟩

/-- The cycles of a step and the devices' advance by them keep the invariant (R455). -/
theorem advance (h : Sound s) (c : Nat) : Sound (advanceDevices c (addCycles c s)) := by
  obtain ⟨hchr, htables⟩ := ppuAdvance_rams c (addCycles c s)
  exact ⟨h.memory.congr rfl rfl rfl hchr htables, h.ppu.advance c, h.apu.advance c, h.mapper, h.cartridge⟩

theorem systemStep (h : Sound s) (hs : systemStep s = .next t) : Sound t := by
  obtain ⟨c, nmi, u, ht, -, hnmi, rfl⟩ := systemStep_effect hs
  exact ((h.touches ht).setNmi hnmi).advance c

end Sound

/-! ## Power-up -/

/-- The mapper's and the cartridge's part of the invariant in a power-up state. -/
theorem powerUpState_cartridge {s : State} {c : Cartridge} {k : Byte} {d : Draws} {mw : MapperState × Windows}
    (hc : PoweredCartridge s c) (hs : Sound s) (hm : powerUpMapper c = .next mw) :
    mapperAgrees (powerUpState s c k d mw) ∧ cartridgeSound (powerUpState s c k d mw) := by
  cases hc with
  | nes hf =>
    obtain ⟨ha, hin⟩ := powerUpMapper_nes (s := powerUpState s _ k d mw) hm rfl rfl rfl
    exact ⟨ha, (cartridgeSound_nes rfl).2 ⟨hin, parseNes_canonical hf⟩⟩
  | nsf hf =>
    cases hm
    exact ⟨trivial, parseNsf_canonical hf⟩
  | loaded hf =>
    cases hm
    have := hs.cartridge
    simp only [cartridgeSound, hf] at this
    exact ⟨trivial, this⟩

/-- The memories of a power-up hold the draws (R451). -/
theorem powerUpState_memoryInv (s : State) (c : Cartridge) (k : Byte) (d : Draws) (mw : MapperState × Windows) :
    MemoryInv (powerUpState s c k d mw) := by
  have hbytes (n : Nat) (bs : List Byte) : (Memory.ofBytes n bs).wf = true ∧ (Memory.ofBytes n bs).below n = true :=
    ⟨Memory.wf_ofBytes n bs, Memory.below_ofBytes n bs⟩
  refine ⟨hbytes _ _, fun m h => ?_, ?_, hbytes _ _, hbytes _ _⟩
  · simp only [powerUpState] at h
    split at h
    · cases h
      exact hbytes _ _
    · cases h
  · simp only [powerUpState]
    cases s.params.prgRamPresent <;> rfl

/-- The APU at power-up is in range (R414). -/
theorem apuReset_ok (delay : Nat) : ApuOk delay ApuState.reset := by
  have hlen : LengthOk false 0 := ⟨fun _ => rfl, Nat.zero_le _⟩
  have hlfsr : (1 : BitVec 15) ≠ 0 := by decide
  exact ⟨⟨hlen, hlen, hlen, hlen, hlfsr, Nat.zero_le _⟩,
    ⟨(by decide : 0 < 7457), (by decide : 0 < 5), Nat.zero_le _⟩⟩

/-- A power-up state meets the invariant (R414, R451). -/
theorem powerUpState_sound {s : State} {c : Cartridge} (k : Byte) (d : Draws) {mw : MapperState × Windows}
    (hc : PoweredCartridge s c) (hs : Sound s) (hm : powerUpMapper c = .next mw) : Sound (powerUpState s c k d mw) := by
  obtain ⟨ha, hsound⟩ := powerUpState_cartridge (k := k) (d := d) hc hs hm
  have hpos : framePosition (powerUpState s c k d mw).ppu = 3 * (powerUpState s c k d mw).cycles % dotsPerFrame := by
    simp [framePosition, powerUpState, PpuState.reset]
  have hppu : PpuInv (powerUpState s c k d mw) :=
    ⟨(by decide : 0 < 262), (by decide : 0 < 341), fun _ => hpos, nofun, fun _ => ⟨rfl, rfl⟩⟩
  exact ⟨powerUpState_memoryInv s c k d mw, hppu, .of_ok (apuReset_ok _) rfl rfl ⟨[], rfl⟩, ha, hsound⟩

/-- Settles O58: touches, the devices' advance and the host's moves keep `Sound`, a power-up meets it anew; the B bits are
`bBitsStaySet`'s. -/
theorem stepKeepsInvariant : Obligations.StepKeepsInvariant := by
  intro s t hi h
  obtain ⟨hb, hs⟩ := inv_iff.1 hi
  refine inv_iff.2 ⟨bBitsStaySet s t hb h, ?_⟩
  obtain ⟨buttons, queue, s1, rfl, h | ⟨run, pc, rfl⟩ | ⟨c, k, d, hc, h⟩⟩ := step_effect h
  · exact (hs.host buttons queue s.run s.pc).systemStep h
  · exact hs.host buttons queue run pc
  · obtain ⟨mw, hm, ht, -⟩ := powerUp_effect h
    exact (powerUpState_sound k d hc (hs.host buttons queue s.run s.pc) hm).touches ht

end Sys2Proof.Machine
end
section
/-!
PROOFS. The address map: the region of each range of addresses, said once in both modes, and what a read and a write do there
(R61, R62, R64, R79).
-/

namespace Sys2Proof.Machine
open Sys2Proof.Statements

/-! ## The regions of the ranges -/

section
variable {s : State} {a : Addr}

theorem isNsf_of_nes {f : NesFile} (h : s.cart = .nes f) : s.isNsf = false := by
  simp only [State.isNsf, h]

theorem isNsf_of_nsf {f : NsfFile} (h : s.cart = .nsf f) : s.isNsf = true := by
  simp only [State.isNsf, h]

theorem regionOf_noPpu (hn : s.isNsf = true) (h1 : 0x2000 ≤ a.toNat) (h2 : a.toNat < 0x4000) :
    regionOf s a = .unmapped := by
  simp (disch := omega) only [regionOf, if_neg, if_pos, hn, if_true]

theorem regionOf_apuChannel (h1 : 0x4000 ≤ a.toNat) (h2 : a.toNat < 0x4014) :
    regionOf s a = .apuChannel (a.toNat - 0x4000) := by
  simp (disch := omega) only [regionOf, if_neg, if_pos]

theorem regionOf_noOamDma (hn : s.isNsf = true) (h : a.toNat = 0x4014) : regionOf s a = .unmapped := by
  simp (disch := omega) only [regionOf, if_neg, if_pos, hn, if_true]

theorem regionOf_apuStatus (h : a.toNat = 0x4015) : regionOf s a = .apuStatus := by
  simp (disch := omega) only [regionOf, if_neg, if_pos]

theorem regionOf_pad1 (h : a.toNat = 0x4016) : regionOf s a = .pad1 := by
  simp (disch := omega) only [regionOf, if_neg, if_pos]

theorem regionOf_pad2 (h : a.toNat = 0x4017) : regionOf s a = .pad2 := by
  simp (disch := omega) only [regionOf, if_neg, if_pos]

/-- The range above the registers, in both modes. -/
theorem regionOf_aboveRegisters (h1 : 0x4018 ≤ a.toNat) (h2 : a.toNat < 0x5000) : regionOf s a = .unmapped := by
  simp (disch := omega) only [regionOf, if_neg, if_pos]

theorem regionOf_boot (hn : s.isNsf = true) (h1 : 0x5000 ≤ a.toNat) (h2 : a.toNat < 0x5100) :
    regionOf s a = .boot (a.toNat - 0x5000) := by
  simp (disch := omega) only [regionOf, if_neg, if_pos, hn, if_true]

/-- The range between the bootstrap region and the bank registers, in both modes. -/
theorem regionOf_aboveBoot (h1 : 0x5100 ≤ a.toNat) (h2 : a.toNat < 0x5FF8) : regionOf s a = .unmapped := by
  simp (disch := omega) only [regionOf, if_neg, if_pos]

theorem regionOf_nsfBank (hn : s.isNsf = true) (h1 : 0x5FF8 ≤ a.toNat) (h2 : a.toNat < 0x6000) :
    regionOf s a = .nsfBank (a.toNat - 0x5FF8) := by
  simp (disch := omega) only [regionOf, if_neg, if_pos, hn, if_true]

/-- In video mode nothing lies between the registers and PRG-RAM. -/
theorem regionOf_belowPrgRam (hn : s.isNsf = false) (h1 : 0x4018 ≤ a.toNat) (h2 : a.toNat < 0x6000) :
    regionOf s a = .unmapped := by
  simp (disch := omega) only [regionOf, if_neg, if_pos, hn, Bool.false_eq_true, if_false, ite_self]

theorem regionOf_prgRam {m : Memory} (hm : s.prgRam = some m) (h1 : 0x6000 ≤ a.toNat) (h2 : a.toNat < 0x8000) :
    regionOf s a = .prgRam (a.toNat - 0x6000) := by
  simp (disch := omega) only [regionOf, if_neg, if_pos, hm, Option.isSome_some, if_true]

theorem regionOf_noPrgRam (hm : s.prgRam = none) (h1 : 0x6000 ≤ a.toNat) (h2 : a.toNat < 0x8000) :
    regionOf s a = .unmapped := by
  simp (disch := omega) only [regionOf, if_neg, if_pos, hm, Option.isSome_none, Bool.false_eq_true, if_false]

/-! ## Reads and writes by region -/

theorem faultsUnmapped (h : regionOf s a = .unmapped) : FaultsUnmapped a s := by
  simp only [FaultsUnmapped, memRead, memWrite, h, implies_true, and_self]

theorem memRead_ram (h : a.toNat < 0x2000) : memRead a s = .next (s.ram.read (a.toNat % 0x800), s) := by
  simp only [memRead, regionOf_ram h]

theorem memWrite_ram (h : a.toNat < 0x2000) (v : Byte) : memWrite a v s = .next (s.setRam (a.toNat % 0x800) v) := by
  simp only [memWrite, regionOf_ram h]

theorem memRead_apuStatus (h : a.toNat = 0x4015) : memRead a s = .next (apuStatus s.apu, s) := by
  simp only [memRead, regionOf_apuStatus h]

theorem memRead_prgRam {m : Memory} (hm : s.prgRam = some m) (h1 : 0x6000 ≤ a.toNat) (h2 : a.toNat < 0x8000) :
    memRead a s = .next (m.read (a.toNat - 0x6000), s) := by
  simp only [memRead, regionOf_prgRam hm h1 h2, prgRamByte, hm]

theorem memWrite_prgRam {m : Memory} (hm : s.prgRam = some m) (h1 : 0x6000 ≤ a.toNat) (h2 : a.toNat < 0x8000)
    (v : Byte) : memWrite a v s = .next { s with prgRam := some (m.write (a.toNat - 0x6000) v) } := by
  simp only [memWrite, regionOf_prgRam hm h1 h2, State.setPrgRam, hm, Option.map_some]

end

/-! ## The map of each mode -/

theorem videoMapOfMemories : VideoMapOfMemories := by
  intro s f a v hc
  have hn := isNsf_of_nes hc
  refine ⟨fun h => ⟨memRead_ram h, memWrite_ram h v⟩, fun h1 h2 => faultsUnmapped (regionOf_belowPrgRam hn h1 h2),
    fun h1 h2 hm => faultsUnmapped (regionOf_noPrgRam hm h1 h2),
    fun m h1 h2 hm => ⟨memRead_prgRam hm h1 h2, memWrite_prgRam hm h1 h2 v⟩, fun h1 h2 => ?_, fun h => ?_, fun h => ?_⟩
  · rw [ReadGives, memRead_cart_nes hc h1, prgRead, if_pos h2]
    rfl
  · rw [ReadGives, memRead_cart_nes hc (by omega), prgRead, if_neg (by omega)]
    rfl
  · simp only [memWrite, regionOf_cart h, cartWrite, hc, State.setMapper]

theorem mapOfApuRegisters : MapOfApuRegisters := by
  intro s a v
  refine ⟨fun h1 h2 => ?_, fun h => ⟨memRead_apuStatus h, ?_⟩, fun h => ?_⟩
  · have hr : regionOf s a = .apuChannel (a.toNat - 0x4000) := regionOf_apuChannel h1 h2
    exact ⟨by simp only [RefusesRead, memRead, hr], by simp only [memWrite, hr, State.setApu, offsetFrom]⟩
  · simp only [memWrite, regionOf_apuStatus h, State.setApu]
  · simp only [memWrite, regionOf_pad2 h, State.setApu]

/-- Settles O29: each range has its region, and each region its read and its write. -/
theorem addressMap : Obligations.AddressMap := ⟨videoMapOfMemories, mapOfApuRegisters⟩

/-- Settles O30: each range of NSF mode has its region, and each region its read and its write. -/
theorem nsfMap : Obligations.NsfMap := by
  intro s f a v hc
  have hn := isNsf_of_nsf hc
  refine ⟨fun h => ⟨memRead_ram h, memWrite_ram h v⟩, fun h1 h2 => faultsUnmapped (regionOf_noPpu hn h1 h2),
    fun h => faultsUnmapped (regionOf_noOamDma hn h), memRead_apuStatus, fun h1 h2 => ?_,
    fun h1 h2 => faultsUnmapped (regionOf_aboveRegisters h1 h2), fun h1 h2 => faultsUnmapped (regionOf_aboveBoot h1 h2),
    fun h1 h2 hm => faultsUnmapped (regionOf_noPrgRam hm h1 h2),
    fun m h1 h2 hm => ⟨memRead_prgRam hm h1 h2, memWrite_prgRam hm h1 h2 v⟩, fun h1 h2 => ?_, fun h => ?_⟩
  · have hr := regionOf_boot hn h1 h2
    exact ⟨by simp only [ReadGives, memRead, hr, bootRegionByte, hc, bootByte, offsetFrom], by simp only [memWrite, hr]⟩
  · have hr := regionOf_nsfBank hn h1 h2
    exact ⟨by simp only [RefusesRead, memRead, hr], by simp only [memWrite, hr, State.setMapper, offsetFrom]⟩
  · have hr : regionOf s a = .cart := regionOf_cart h
    exact ⟨by simp only [memWrite, hr, cartWrite, hc],
      by cases hb : nsfRead f s.mapper a <;> simp only [memRead, hr, cartRead, cartByte, hc, hb]⟩

end Sys2Proof.Machine
end

section
/-!
PROOFS. A stored byte is what is read and fetched after, at every mirror (R72, R74, R77).
-/

namespace Sys2Proof.Machine
open Sys2Proof.Statements

theorem storesReadBack : StoresReadBack := by
  intro s t a b v hram hprg h
  refine ⟨fun ha hb => ?_, fun h1 h2 => ?_⟩
  · rw [memWrite_ram ha] at h
    cases h
    rw [memRead_ram hb, State.setRam_ram]
    by_cases e : b.toNat % 0x800 = a.toNat % 0x800
    · rw [if_pos e, e, Memory.read_write_same _ _ hram]
    · rw [if_neg e, Memory.read_write_other _ _ e]
  · cases hm : s.prgRam with
    | none =>
      rw [(faultsUnmapped (regionOf_noPrgRam hm h1 h2)).2] at h
      cases h
    | some m =>
      rw [memWrite_prgRam hm h1 h2] at h
      cases h
      rw [memRead_prgRam rfl h1 h2, Memory.read_write_same _ _ (hprg m hm)]

theorem storeIsFetchedNext : StoreIsFetchedNext := by
  intro s t a v hram ha h
  rw [memWrite_ram ha] at h
  cases h
  simp only [codeByte, regionOf_ram ha, State.setRam_ram]
  exact congrArg some (Memory.read_write_same _ _ hram)

/-- Settles O35: a write to RAM or PRG-RAM is a write to the memory's cell, and reads and fetches look the cell up. -/
theorem storedBytesReadBack : Obligations.StoredBytesReadBack := ⟨storesReadBack, storeIsFetchedNext⟩

end Sys2Proof.Machine
end

section
/-!
PROOFS. The controller port (R78): each access, and the protocol of eight reads as a fact about the shift register.
-/

namespace Sys2Proof.Machine
open Sys2Proof.Statements

/-! ## The accesses -/

theorem memRead_pad1 (s : State) :
    memRead 0x4016 s = .next (withOpenBus s (padBit s), (s.setPad (padAfterRead s.pad)).countDraw) := by
  simp only [memRead, regionOf_pad1 (a := 0x4016) rfl]

theorem memRead_pad2 (s : State) : memRead 0x4017 s = .next (withOpenBus s false, s.countDraw) := by
  simp only [memRead, regionOf_pad2 (a := 0x4017) rfl]

theorem memWrite_pad1 (v : Byte) (s : State) :
    memWrite 0x4016 v s = .next (s.setPad (padAfterWrite s.buttons v s.pad)) := by
  simp only [memWrite, regionOf_pad1 (a := 0x4016) rfl]

theorem getLsbD_zero_eq (v : Byte) : v.getLsbD 0 = decide (v.toNat % 2 = 1) := by
  rw [BitVec.getLsbD, Nat.testBit_zero]

/-- The data bit of a controller read stands in bit 0. -/
theorem getLsbD_withOpenBus (s : State) (d : Bool) : (withOpenBus s d).getLsbD 0 = d := by
  rw [withOpenBus, getLsbD_setBit _ _ _ _ (by decide), if_pos rfl]

/-- Bits 7 to 1 of a controller read are the draw's. -/
theorem withOpenBus_upper (s : State) (d : Bool) : withOpenBus s d &&& 0xFE = Config.openBus s.drawCount &&& 0xFE := by
  apply BitVec.eq_of_getLsbD_eq
  intro i _
  rw [withOpenBus, BitVec.getLsbD_and, BitVec.getLsbD_and, getLsbD_setBit _ _ _ _ (by decide)]
  by_cases e : i = 0
  · subst e
    simp
  · rw [if_neg e]

theorem portReadsAndWrites : PortReadsAndWrites := by
  intro s v
  refine ⟨?_, ⟨_, memRead_pad1 s, getLsbD_withOpenBus s _, withOpenBus_upper s _⟩, ⟨_, memRead_pad2 s, rfl⟩⟩
  have hc : (s.pad.strobe && !v.getLsbD 0) = true ↔ s.pad.strobe = true ∧ v.toNat % 2 = 0 := by
    rw [getLsbD_zero_eq, Bool.and_eq_true, Bool.not_eq_true', decide_eq_false_iff_not, ← ne_eq,
      Nat.mod_two_ne_one]
  simp only [memWrite_pad1, padAfterWrite, hc]
  rw [getLsbD_zero_eq]
  rfl

/-! ## The protocol -/

/-- The k-th of the reads that shift the register out: its bits from bit 0 up, then ones. -/
def shiftedOut (shift : Byte) (k : Nat) : Bool := if k < 8 then shift.getLsbD k else true

/-- One read moves what the register gives by one. -/
theorem shiftedOut_shift (shift : Byte) (k : Nat) :
    shiftedOut ((shift >>> 1) ||| 0x80) k = shiftedOut shift (k + 1) := by
  have h80 (k : Nat) : (0x80 : Byte).getLsbD k = decide (k = 7) := by
    by_cases h : k < 8
    · interval_cases k <;> rfl
    · rw [BitVec.getLsbD_of_ge _ _ (by omega), decide_eq_false (by omega)]
  simp only [shiftedOut, BitVec.getLsbD_or, BitVec.getLsbD_ushiftRight, h80]
  rcases Nat.lt_trichotomy k 7 with h | rfl | h
  · simp [show k < 8 by omega, show k ≠ 7 by omega, h, Nat.add_comm]
  · simp
  · simp [show ¬ k < 8 by omega, show 7 ≤ k by omega]

/-- With the strobe clear, n reads give what the shift register holds. -/
theorem padBits_of_shifting (n : Nat) (s : State) (h : s.pad.strobe = false) :
    padBits n s = some ((List.range n).map (shiftedOut s.pad.shift)) := by
  induction n generalizing s with
  | zero => rfl
  | succ n ih =>
    have hpad : padAfterRead s.pad = ⟨false, (s.pad.shift >>> 1) ||| 0x80⟩ := by
      simp only [padAfterRead, h, Bool.false_eq_true, if_false]
    have hbit : padBit s = shiftedOut s.pad.shift 0 := by
      simp only [padBit, h, Bool.false_eq_true, if_false, shiftedOut, Nat.zero_lt_succ, if_true]
    have hrest := ih (s.setPad (padAfterRead s.pad)).countDraw (by rw [hpad]; rfl)
    simp only [padBits, memRead_pad1, getLsbD_withOpenBus, hrest, hbit, Option.map_some, List.range_succ_eq_map,
      List.map_cons, List.map_map]
    refine congrArg (fun l => some (shiftedOut s.pad.shift 0 :: l)) (List.map_congr_left fun k _ => ?_)
    rw [State.countDraw_pad, State.setPad_pad, hpad]
    exact shiftedOut_shift s.pad.shift k

theorem eightReadsGiveTheButtons : EightReadsGiveTheButtons := by
  intro s t u n ht hu
  rw [memWrite_pad1] at ht
  cases ht
  rw [memWrite_pad1] at hu
  cases hu
  rw [padBits_of_shifting _ _ rfl, List.range_add, List.map_append, List.map_map]
  congr 2
  exact List.eq_replicate_iff.2 ⟨by simp, fun b hb => by
    obtain ⟨k, -, rfl⟩ := List.mem_map.1 hb
    simp [shiftedOut]⟩

/-- Settles O32: the accesses one by one, and the reads of a strobed port by what its shift register gives. -/
theorem controllerPort : Obligations.ControllerPort := ⟨portReadsAndWrites, eightReadsGiveTheButtons⟩

end Sys2Proof.Machine
end
section
/-!
PROOFS. The stack (R69): a row of pushes writes the bytes at S, S - 1, ... and leaves every other byte of RAM, and a row of
pulls reads the bytes at S + 1, S + 2, ...; the frame of the pushing instructions and last-in, first-out both follow.
-/

namespace Sys2Proof.Machine
open Sys2Proof.Statements

theorem stackIndex_inj {p q : Byte} : stackIndex p = stackIndex q ↔ p = q := by
  rw [stackIndex, stackIndex, Nat.add_left_cancel_iff, BitVec.toNat_inj]

/-- Stack positions fewer than 256 apart differ. -/
theorem sub_ofNat_inj {sp : Byte} {j k : Nat} (hj : j < 256) (hk : k < 256) :
    sp - BitVec.ofNat 8 j = sp - BitVec.ofNat 8 k ↔ j = k := by
  refine ⟨fun h => ?_, fun h => h ▸ rfl⟩
  have := congrArg BitVec.toNat (sub_right_injective h)
  rwa [BitVec.toNat_ofNat, BitVec.toNat_ofNat, Nat.mod_eq_of_lt hj, Nat.mod_eq_of_lt hk] at this

/-- The position below the j-th is the next. -/
theorem sub_one_sub_ofNat (sp : Byte) (j : Nat) : sp - 1 - BitVec.ofNat 8 j = sp - BitVec.ofNat 8 (j + 1) := by
  rw [BitVec.ofNat_add, add_comm, ← sub_sub]
  rfl

theorem add_one_add_ofNat {n : Nat} (x : BitVec n) (j : Nat) :
    x + 1 + BitVec.ofNat n j = x + BitVec.ofNat n (j + 1) := by
  rw [BitVec.ofNat_add, add_comm (BitVec.ofNat n j), ← add_assoc]
  rfl

/-! ## Rows of pushes -/

theorem pushAll_sp (bs : List Byte) (s : State) : (pushAll bs s).sp = s.sp - BitVec.ofNat 8 bs.length := by
  induction bs generalizing s with
  | nil => exact (sub_zero s.sp).symm
  | cons b bs ih => rw [pushAll, ih, push_sp, sub_one_sub_ofNat, List.length_cons]

/-- Pushes leave every byte of RAM outside the positions they write. -/
theorem pushAll_read_other {bs : List Byte} {s : State} {k : Nat}
    (h : ∀ j, j < bs.length → k ≠ stackIndex (s.sp - BitVec.ofNat 8 j)) :
    (pushAll bs s).ram.read k = s.ram.read k := by
  induction bs generalizing s with
  | nil => rfl
  | cons b bs ih =>
    have htail : ∀ j, j < bs.length → k ≠ stackIndex ((push b s).sp - BitVec.ofNat 8 j) := fun j hj => by
      rw [push_sp, sub_one_sub_ofNat]
      exact h (j + 1) (Nat.succ_lt_succ hj)
    have hhead : k ≠ stackIndex s.sp := by simpa using h 0 (Nat.zero_lt_succ _)
    rw [pushAll, ih htail, push_ram, Memory.read_write_other _ _ hhead]

/-- The j-th of up to 256 pushed bytes stands j below the first. -/
theorem pushAll_read (bs : List Byte) (s : State) (hram : s.ram.wf = true) (hlen : bs.length ≤ 256) (j : Nat)
    (hj : j < bs.length) : (pushAll bs s).ram.read (stackIndex (s.sp - BitVec.ofNat 8 j)) = bs[j] := by
  induction bs generalizing s j with
  | nil => exact absurd hj (Nat.not_lt_zero j)
  | cons b bs ih =>
    rw [List.length_cons] at hlen hj
    cases j with
    | zero =>
      have hrest : ∀ i, i < bs.length → stackIndex s.sp ≠ stackIndex ((push b s).sp - BitVec.ofNat 8 i) := fun i hi e => by
        rw [stackIndex_inj, push_sp, sub_one_sub_ofNat] at e
        have := (sub_ofNat_inj (sp := s.sp) (j := 0) (by decide) (by omega)).1 ((sub_zero _).trans e)
        omega
      rw [BitVec.sub_zero, pushAll, pushAll_read_other hrest, push_ram, Memory.read_write_same _ _ hram]
      rfl
    | succ j =>
      have := ih (push b s) (Memory.wf_write _ _ hram) (by omega) j (by omega)
      rwa [push_sp, sub_one_sub_ofNat] at this

/-! ## Rows of pulls -/

theorem pullAll_sp (n : Nat) (s : State) : (pullAll n s).2.sp = s.sp + BitVec.ofNat 8 n := by
  induction n generalizing s with
  | zero => exact (add_zero s.sp).symm
  | succ n ih => rw [pullAll, ih, afterPull, State.setSp_sp, add_one_add_ofNat]

theorem length_pullAll (n : Nat) (s : State) : (pullAll n s).1.length = n := by
  induction n generalizing s with
  | zero => rfl
  | succ n ih => rw [pullAll, List.length_cons, ih]

/-- The j-th of the pulled bytes stands j + 1 above S. -/
theorem pullAll_get (n : Nat) (s : State) (j : Nat) (hj : j < (pullAll n s).1.length) :
    (pullAll n s).1[j] = s.ram.read (stackIndex (s.sp + BitVec.ofNat 8 (j + 1))) := by
  induction n generalizing s j with
  | zero => exact absurd hj (Nat.not_lt_zero j)
  | succ n ih =>
    cases j with
    | zero => rfl
    | succ j =>
      refine (ih (afterPull s) j (Nat.lt_of_succ_lt_succ hj)).trans ?_
      rw [afterPull, State.setSp_ram, State.setSp_sp, add_one_add_ofNat]

/-! ## The statements -/

theorem stackIsRamPageOne : StackIsRamPageOne := by
  intro s v sp
  have hsp := sp.isLt
  have ha : (BitVec.ofNat 16 (256 + sp.toNat)).toNat = 256 + sp.toNat := by
    rw [BitVec.toNat_ofNat, Nat.mod_eq_of_lt (by omega)]
  have hi : (256 + sp.toNat) % 0x800 = stackByteAt sp := Nat.mod_eq_of_lt (by omega)
  refine ⟨?_, ?_, rfl, rfl, rfl⟩
  · rw [memWrite_ram (by omega), ha, hi, State.setRam]
  · rw [memRead_ram (by omega), ha, hi]

theorem pushedBytesPullReversed : PushedBytesPullReversed := by
  intro s bs hram hlen
  refine ⟨List.ext_getElem (by rw [length_pullAll, List.length_reverse]) fun j hj hj' => ?_, ?_⟩
  · rw [List.length_reverse] at hj'
    have hpos : s.sp - BitVec.ofNat 8 bs.length + BitVec.ofNat 8 (j + 1) = s.sp - BitVec.ofNat 8 (bs.length - 1 - j) := by
      have e : bs.length = (bs.length - 1 - j) + (j + 1) := by omega
      rw [e, BitVec.ofNat_add, ← sub_sub, sub_add_cancel, ← e]
    rw [pullAll_get, pushAll_sp, hpos, pushAll_read bs s hram hlen _ (by omega), List.getElem_reverse]
  · rw [pullAll_sp, pushAll_sp, sub_add_cancel]

/-- Settles O11: pushes and pulls are accesses of page 1, and the j-th pushed byte stands where the j-th last pull reads. -/
theorem stackPushesAndPulls : Obligations.StackPushesAndPulls := ⟨stackIsRamPageOne, pushedBytesPullReversed⟩

end Sys2Proof.Machine
end

section
/-!
PROOFS. Fetching (R68, R331): what a fetch reads in each range, and the first missing byte of an instruction.
-/

namespace Sys2Proof.Machine
open Sys2Proof.Statements

theorem codeByte_unmapped {s : State} {a : Addr} (h : regionOf s a = .unmapped) : codeByte s a = none := by
  simp only [codeByte, h]

/-- Between RAM and PRG-RAM only the bootstrap region is fetched from. -/
theorem codeByte_outside_boot {s : State} {a : Addr} (h1 : 0x2000 ≤ a.toNat) (h2 : a.toNat < 0x6000)
    (hb : a.toNat < 0x5000 ∨ 0x5100 ≤ a.toNat) : codeByte s a = none := by
  have hr := regionOf_at s a
  generalize e : regionOf s a = r at hr
  cases r with
  | ram | boot | prgRam | cart => simp only [RegionAt] at hr; omega
  | _ => simp only [codeByte, e]

theorem fetchByte_of_none {s : State} {a : Addr} (h : codeByte s a = none) : fetchByte s a = .fault (.pcOutOfRange a) := by
  simp only [fetchByte, h]

theorem fetchByte_of_some {s : State} {a : Addr} {b : Byte} (h : codeByte s a = some b) : fetchByte s a = .next b := by
  simp only [fetchByte, h]

theorem fetchReadsCodeRegionsOnly : FetchReadsCodeRegionsOnly := by
  intro s a
  refine ⟨fun h => by simp only [codeByte, regionOf_ram h], fun h1 h2 => codeByte_outside_boot h1 (by omega) (.inl h2),
    fun h1 h2 => ?_, fun h1 h2 => codeByte_outside_boot (by omega) h2 (.inr h1), fun h1 h2 => ?_,
    fun h => by simp only [codeByte, regionOf_cart h], fetchByte_of_none, fun b => fetchByte_of_some⟩
  · cases hc : s.cart with
    | nes f => exact codeByte_unmapped (regionOf_belowPrgRam (isNsf_of_nes hc) (by omega) (by omega))
    | nsf f => simp only [codeByte, regionOf_boot (isNsf_of_nsf hc) h1 h2, bootRegionByte, hc]
  · cases hm : s.prgRam with
    | none => exact codeByte_unmapped (regionOf_noPrgRam hm h1 h2)
    | some m => simp only [codeByte, regionOf_prgRam hm h1 h2, prgRamByte, hm, Option.map_some]

/-- The row of an instruction's opcode asks for as many bytes as its encoding has after the opcode (R141). -/
theorem formOf_opcode (i : Instr) : ∃ f, formOf i.opcode = some f ∧ f.operandCount = i.operandBytes.length := by
  have h : (formOf i.opcode).map Form.operandCount = some i.operandBytes.length := by
    cases i <;> dsimp only [Instr.opcode] <;> rfl
  exact Option.map_eq_some_iff.1 h

/-- A row of fetches stops at its first missing byte. -/
theorem fetchBytes_missing {s : State} {n k : Nat} {a : Addr} (hk : k < n)
    (hbefore : ∀ j, j < k → codeByte s (a + BitVec.ofNat 16 j) ≠ none)
    (hmissing : codeByte s (a + BitVec.ofNat 16 k) = none) :
    fetchBytes s n a = .fault (.pcOutOfRange (a + BitVec.ofNat 16 k)) := by
  induction n generalizing k a with
  | zero => exact absurd hk (Nat.not_lt_zero k)
  | succ n ih =>
    cases k with
    | zero =>
      rw [BitVec.add_zero] at hmissing ⊢
      rw [fetchBytes, fetchByte_of_none hmissing, andThen_fault]
    | succ k =>
      have hnext := add_one_add_ofNat a
      obtain ⟨b, hb⟩ := Option.ne_none_iff_exists'.1 (hbefore 0 (Nat.zero_lt_succ k))
      rw [BitVec.add_zero] at hb
      have hrest := ih (k := k) (a := a + 1) (Nat.lt_of_succ_lt_succ hk)
        (fun j hj => hnext j ▸ hbefore (j + 1) (Nat.succ_lt_succ hj)) (hnext k ▸ hmissing)
      rw [fetchBytes, fetchByte_of_some hb, andThen_next, hrest, andThen_fault, hnext]

theorem firstMissingByteFaults : FirstMissingByteFaults := by
  refine ⟨fun s h => by rw [fetchInstr, fetchByte_of_none h, andThen_fault], fun s i n h0 hn hstands hmissing => ?_⟩
  obtain ⟨n, rfl⟩ := Nat.exists_eq_succ_of_ne_zero h0.ne'
  obtain ⟨f, hf, hcount⟩ := formOf_opcode i
  have hopcode : codeByte s s.pc = some i.opcode := by simpa [encode] using hstands 0 h0
  have hnext := add_one_add_ofNat s.pc
  have hbefore (j : Nat) (hj : j < n) : codeByte s (s.pc + 1 + BitVec.ofNat 16 j) ≠ none := by
    rw [hnext, hstands (j + 1) (by omega), List.getElem?_eq_getElem (by omega)]
    exact Option.some_ne_none _
  have hoperands : fetchBytes s f.operandCount (s.pc + 1) = .fault (.pcOutOfRange (s.pc + 1 + BitVec.ofNat 16 n)) :=
    fetchBytes_missing (by rw [hcount]; exact Nat.lt_of_succ_lt_succ hn) hbefore (by rw [hnext]; exact hmissing)
  simp only [fetchInstr, fetchByte_of_some hopcode, andThen_next, hf, hoperands, andThen_fault, hnext]

/-- Settles O21: each range has its region, and a row of fetches stops at its first missing byte. -/
theorem fetchAndItsFaults : Obligations.FetchAndItsFaults := ⟨fetchReadsCodeRegionsOnly, firstMissingByteFaults⟩

end Sys2Proof.Machine
end
section
/-!
PROOFS. The accesses of the 151 instructions. `Accesses` says of each instruction which shape its meaning has, at which address;
`Effect` what the shapes come to when they complete. Completion and the frames of memory and devices follow shape by shape.
-/

namespace Sys2Proof.Machine
open Sys2Proof.Statements

/-! ## Words and their bytes -/

theorem toNat_hiByte (w : Addr) : (hiByte w).toNat = w.toNat / 256 := by
  have := w.isLt
  rw [hiByte, BitVec.extractLsb'_toNat, Nat.shiftRight_eq_div_pow]
  omega

theorem toNat_loByte (w : Addr) : (loByte w).toNat = w.toNat % 256 := by
  rw [loByte, BitVec.extractLsb'_toNat, Nat.shiftRight_zero]

theorem toNat_wordOf (hi lo : Byte) : (wordOf hi lo).toNat = hi.toNat * 256 + lo.toNat := by
  rw [wordOf, BitVec.toNat_append, Nat.shiftLeft_eq, Nat.mul_comm, ← Nat.two_pow_add_eq_or_of_lt lo.isLt]

/-- A word is the word of its two bytes. -/
theorem word_bytes (w : Addr) : word (hiByte w) (loByte w) = w := by
  rw [word, toNat_hiByte, toNat_loByte, Nat.div_add_mod', BitVec.ofNat_toNat, BitVec.setWidth_eq]

/-- The pointer's high byte is read where R66 says. -/
theorem jmpIndHigh_eq_highPointer (s : State) (p : Addr) :
    jmpIndHigh s.params.jmpIndirectPageWrap p = highPointer s p := by
  have hp := p.isLt
  unfold jmpIndHigh highPointer
  split
  · apply BitVec.eq_of_toNat_eq
    have h1 : (1 : Byte).toNat = 1 := rfl
    rw [toNat_wordOf, toNat_hiByte, BitVec.toNat_add, toNat_loByte, BitVec.toNat_ofNat, h1]
    omega
  · rw [BitVec.ofNat_add, BitVec.ofNat_toNat, BitVec.setWidth_eq]
    rfl

/-! ## The shapes -/

/-- Only the registers of the CPU differ (R20 to R25). -/
def RegistersOnly (s t : State) : Prop :=
  ∃ a x y sp pc p, t = { s with a := a, x := x, y := y, sp := sp, pc := pc, p := p }

/-- What an instruction's meaning is made of: pushes (none for most) and registers, one read, one store, a read and a store, the
two pointer reads of JMP indirect, or BRK's taking of an interrupt. -/
inductive Accesses (i : Instr) (s : State) : Out State → Prop where
  | pushes (bs : List Byte) {t : State} (hop : operandAddr i s = none) (hm : i.mode ≠ .indirect)
      (hb : bs.length = pushCount i.mnemonic) (ht : RegistersOnly (pushAll bs s) t) : Accesses i s (.next t)
  | read {ea : Addr} {n : Nat} {f : Byte → State → State} (hop : operandAddr i s = some ea)
      (hi : isReading i.mnemonic = true) (hf : ∀ v u, RegistersOnly u ((f v u).advance n)) :
      Accesses i s (withRead ea n f s)
  | store {ea : Addr} {n : Nat} {v : Byte} (hop : operandAddr i s = some ea) (hi : isStore i.mnemonic = true) :
      Accesses i s (withStore ea n v s)
  | modify {ea : Addr} {n : Nat} {result : Byte → Byte} {flags : Byte → Byte → Byte}
      (hop : operandAddr i s = some ea) (hi : isModify i.mnemonic = true) :
      Accesses i s (withModify ea n result flags s)
  | pointer {w : Addr} (hi : i = .jmpInd w) : Accesses i s (execJmpInd w s)
  | interrupt {ret : Addr} {q : Byte} (hi : i = .brk) : Accesses i s (takeInterrupt ret q brkVector s)

theorem Accesses.step {i : Instr} {s : State} {ea : Addr} {n : Nat} {delta : Byte}
    (hop : operandAddr i s = some ea) (hi : isModify i.mnemonic = true) : Accesses i s (withStep ea n delta s) :=
  .modify hop hi

theorem Accesses.shift {i : Instr} {s : State} {ea : Addr} {n : Nat} {shift : Byte → Shifted}
    (hop : operandAddr i s = some ea) (hi : isModify i.mnemonic = true) : Accesses i s (withShift ea n shift s) :=
  .modify hop hi

/-- The accesses of each of the 151 instructions, by shape and operand form. -/
theorem exec_accesses (i : Instr) (s : State) : Accesses i s (exec i s) := by
  cases i with
  | ldaImm | ldxImm | ldyImm | adcImm | sbcImm | andImm | oraImm | eorImm | cmpImm | cpxImm | cpyImm
  | tax | tay | txa | tya | tsx | txs | inx | iny | dex | dey | aslAcc | lsrAcc | rolAcc | rorAcc | pla | plp
  | clc | sec | cli | sei | clv | cld | sed | nop | bcc | bcs | beq | bne | bmi | bpl | bvc | bvs
  | jmpAbs | rts | rti => exact .pushes [] rfl nofun rfl ⟨_, _, _, _, _, _, rfl⟩
  | pha => exact .pushes [s.a] rfl nofun rfl ⟨_, _, _, _, _, _, rfl⟩
  | php => exact .pushes [s.p ||| bMask] rfl nofun rfl ⟨_, _, _, _, _, _, rfl⟩
  | jsr => exact .pushes [hiByte (s.pc + 2), loByte (s.pc + 2)] rfl nofun rfl ⟨_, _, _, _, _, _, rfl⟩
  | ldaZp | ldaZpX | ldaIndX | ldaIndY | ldxZp | ldxZpY | ldyZp | ldyZpX | adcZp | adcZpX | adcIndX | adcIndY
  | sbcZp | sbcZpX | sbcIndX | sbcIndY | andZp | andZpX | andIndX | andIndY | oraZp | oraZpX | oraIndX | oraIndY
  | eorZp | eorZpX | eorIndX | eorIndY | cmpZp | cmpZpX | cmpIndX | cmpIndY | cpxZp | cpyZp | bitZp =>
    exact .read rfl rfl fun _ _ => ⟨_, _, _, _, _, _, rfl⟩
  | ldaAbs | ldxAbs | ldyAbs | adcAbs | sbcAbs | andAbs | oraAbs | eorAbs | cmpAbs | cpxAbs | cpyAbs | bitAbs =>
    exact .read (congrArg some (word_bytes _)) rfl fun _ _ => ⟨_, _, _, _, _, _, rfl⟩
  | ldaAbsX | ldyAbsX | adcAbsX | sbcAbsX | andAbsX | oraAbsX | eorAbsX | cmpAbsX =>
    exact .read (congrArg (fun w => some (eaAbsX w s)) (word_bytes _)) rfl fun _ _ => ⟨_, _, _, _, _, _, rfl⟩
  | ldaAbsY | ldxAbsY | adcAbsY | sbcAbsY | andAbsY | oraAbsY | eorAbsY | cmpAbsY =>
    exact .read (congrArg (fun w => some (eaAbsY w s)) (word_bytes _)) rfl fun _ _ => ⟨_, _, _, _, _, _, rfl⟩
  | staZp | staZpX | staIndX | staIndY | stxZp | stxZpY | styZp | styZpX => exact .store rfl rfl
  | staAbs | stxAbs | styAbs => exact .store (congrArg some (word_bytes _)) rfl
  | staAbsX => exact .store (congrArg (fun w => some (eaAbsX w s)) (word_bytes _)) rfl
  | staAbsY => exact .store (congrArg (fun w => some (eaAbsY w s)) (word_bytes _)) rfl
  | incZp | incZpX | decZp | decZpX => exact .step rfl rfl
  | incAbs | decAbs => exact .step (congrArg some (word_bytes _)) rfl
  | incAbsX | decAbsX => exact .step (congrArg (fun w => some (eaAbsX w s)) (word_bytes _)) rfl
  | aslZp | aslZpX | lsrZp | lsrZpX | rolZp | rolZpX | rorZp | rorZpX => exact .shift rfl rfl
  | aslAbs | lsrAbs | rolAbs | rorAbs => exact .shift (congrArg some (word_bytes _)) rfl
  | aslAbsX | lsrAbsX | rolAbsX | rorAbsX =>
    exact .shift (congrArg (fun w => some (eaAbsX w s)) (word_bytes _)) rfl
  | jmpInd => exact .pointer rfl
  | brk => exact .interrupt rfl

/-! ## Completion -/

/-- Taking an interrupt completes in video mode, where its vector is in the cartridge. -/
theorem takeInterrupt_completes {s : State} (hn : s.isNsf = false) (ret : Addr) (q : Byte) :
    ∃ t, takeInterrupt ret q brkVector s = .next t := by
  cases hc : s.cart with
  | nsf f => rw [isNsf_of_nsf hc] at hn; cases hn
  | nes f =>
    have hread (a : Addr) (ha : 0x8000 ≤ a.toNat) :=
      memRead_cart_nes (s := (push q (push16 ret s)).setP (setBit s.p 2 true)) hc ha
    exact ⟨_, andThen_eq_next.2 ⟨_, andThen_eq_next.2 ⟨_, hread brkVector (by decide),
      andThen_eq_next.2 ⟨_, hread (brkVector + 1) (by decide), rfl⟩⟩, rfl⟩⟩

/-- Settles O28: each shape completes where its accesses do, and an access of RAM does. -/
theorem everyInstructionCompletesOnRam : Obligations.EveryInstructionCompletesOnRam := by
  intro i s hea hptr hbrk
  have h := exec_accesses i s
  generalize exec i s = o at h
  cases h with
  | pushes => exact ⟨_, rfl⟩
  | read hop => exact ⟨_, withRead_next (memRead_ram (hea _ hop))⟩
  | store hop => exact ⟨_, withStore_next (memWrite_ram (hea _ hop) _)⟩
  | modify hop => exact ⟨_, withModify_next (memRead_ram (hea _ hop)) (memWrite_ram (hea _ hop) _)⟩
  | pointer hi =>
    obtain ⟨hlo, hhi⟩ := hptr _ hi
    rw [← jmpIndHigh_eq_highPointer] at hhi
    exact ⟨_, andThen_eq_next.2 ⟨_, andThen_eq_next.2 ⟨_, memRead_ram hlo,
      andThen_eq_next.2 ⟨_, memRead_ram hhi, rfl⟩⟩, rfl⟩⟩
  | interrupt hi => exact takeInterrupt_completes (hbrk hi) _ _

/-! ## What completed -/

/-- What an instruction that completes did, access by access, up to the registers. -/
inductive Effect (i : Instr) (s t : State) : Prop where
  | pushes (bs : List Byte) (hop : operandAddr i s = none) (hm : i.mode ≠ .indirect)
      (hb : bs.length = pushCount i.mnemonic) (ht : RegistersOnly (pushAll bs s) t)
  | read {ea : Addr} {b : Byte} {u : State} (hop : operandAddr i s = some ea) (hi : isReading i.mnemonic = true)
      (hr : memRead ea s = .next (b, u)) (ht : RegistersOnly u t)
  | store {ea : Addr} {v : Byte} {u : State} (hop : operandAddr i s = some ea) (hi : isStore i.mnemonic = true)
      (hw : memWrite ea v s = .next u) (ht : RegistersOnly u t)
  | modify {ea : Addr} {b v : Byte} {u w : State} (hop : operandAddr i s = some ea) (hi : isModify i.mnemonic = true)
      (hr : memRead ea s = .next (b, u)) (hw : memWrite ea v u = .next w) (ht : RegistersOnly w t)
  | pointer {lo hi : Addr} {l h : Byte} {u w : State} (hm : i.mode = .indirect) (hpush : pushCount i.mnemonic = 0)
      (hl : memRead lo s = .next (l, u)) (hh : memRead hi u = .next (h, w)) (ht : RegistersOnly w t)

/-- A word that is read is two bytes that are read. -/
theorem readWord_eq_next {lo hi w : Addr} {s t : State}
    (h : (andThen (memRead lo s) fun l => andThen (memRead hi l.2) fun r => .next (wordOf r.1 l.1, r.2)) =
      (.next (w, t) : Out (Addr × State))) :
    ∃ l u r, memRead lo s = .next (l, u) ∧ memRead hi u = .next (r, t) := by
  obtain ⟨⟨l, u⟩, hl, h⟩ := andThen_eq_next.1 h
  obtain ⟨⟨r, v⟩, hr, h⟩ := andThen_eq_next.1 h
  cases h
  exact ⟨l, u, r, hl, hr⟩

/-- A read of the cartridge changes nothing (R104, R124). -/
theorem memRead_cart_state {a : Addr} {s t : State} {b : Byte} (ha : 0x8000 ≤ a.toNat)
    (h : memRead a s = .next (b, t)) : t = s := by
  have hr : regionOf s a = .cart := regionOf_cart ha
  rcases memRead_effect h with rfl | ⟨e, -⟩ | ⟨e, -⟩ | ⟨e, -⟩
  · rfl
  all_goals rw [hr] at e; cases e

/-- Taking an interrupt pushes three bytes and writes registers (R302). -/
theorem takeInterrupt_pushes {ret : Addr} {q : Byte} {s t : State} (h : takeInterrupt ret q brkVector s = .next t) :
    RegistersOnly (pushAll [hiByte ret, loByte ret, q] s) t := by
  obtain ⟨⟨w, v⟩, hr, rfl⟩ := takeInterrupt_eq_next h
  obtain ⟨l, u, r, hl, hh⟩ := readWord_eq_next hr
  obtain rfl := memRead_cart_state (by decide) hl
  obtain rfl := memRead_cart_state (by decide) hh
  exact ⟨_, _, _, _, _, _, rfl⟩

theorem exec_effect {i : Instr} {s t : State} (h : exec i s = .next t) : Effect i s t := by
  have ha := exec_accesses i s
  rw [h] at ha
  generalize ho : (.next t : Out State) = o at ha
  cases ha with
  | pushes bs hop hm hb ht => cases ho; exact .pushes bs hop hm hb ht
  | read hop hi hf =>
    obtain ⟨b, u, hr, rfl⟩ := withRead_eq_next ho.symm
    exact .read hop hi hr (hf b u)
  | store hop hi =>
    obtain ⟨u, hw, rfl⟩ := withStore_eq_next ho.symm
    exact .store hop hi hw ⟨_, _, _, _, _, _, rfl⟩
  | modify hop hi =>
    obtain ⟨b, u, w, hr, hw, rfl⟩ := withModify_eq_next ho.symm
    exact .modify hop hi hr hw ⟨_, _, _, _, _, _, rfl⟩
  | pointer hi =>
    subst hi
    obtain ⟨⟨w, v⟩, hr, hv⟩ := andThen_eq_next.1 ho.symm
    cases hv
    obtain ⟨l, u, r, hl, hh⟩ := readWord_eq_next hr
    exact .pointer rfl rfl hl hh ⟨_, _, _, _, _, _, rfl⟩
  | interrupt hi =>
    subst hi
    exact .pushes _ rfl nofun rfl (takeInterrupt_pushes ho.symm)

/-! ## Kinds of mnemonic -/

/-- A reading mnemonic stores and pushes nothing. -/
theorem kind_of_isReading {m : Mnemonic} (h : isReading m = true) :
    isStore m = false ∧ isModify m = false ∧ pushCount m = 0 := by
  revert h; cases m <;> decide

/-- A storing mnemonic neither reads nor pushes. -/
theorem kind_of_isStore {m : Mnemonic} (h : isStore m = true) :
    isReading m = false ∧ isModify m = false ∧ pushCount m = 0 := by
  revert h; cases m <;> decide

/-- A read-modify-write is no load, no store and no push. -/
theorem kind_of_isModify {m : Mnemonic} (h : isModify m = true) :
    isReading m = false ∧ isStore m = false ∧ pushCount m = 0 := by
  revert h; cases m <;> decide

/-- JMP indirect has no data address: its pointer is read apart (R154). -/
theorem operandAddr_of_indirect {i : Instr} (h : i.mode = .indirect) (s : State) : operandAddr i s = none := by
  simp only [operandAddr, h]

end Sys2Proof.Machine
end
section
/-!
PROOFS. The frames of memory and devices (R64, R71, R77): what one read, one store and a row of pushes leave alone, said once,
and then each `Effect` of an instruction by these.
-/

namespace Sys2Proof.Machine
open Sys2Proof.Statements

/-! ## Bytes of memory -/

/-- A code byte depends on its own region only. -/
theorem codeByte_congr {s t : State} {a : Addr} (hr : regionOf t a = regionOf s a)
    (hram : ∀ j, regionOf s a = .ram j → t.ram.read j = s.ram.read j)
    (hprg : ∀ j, regionOf s a = .prgRam j → prgRamByte t j = prgRamByte s j)
    (hboot : ∀ j, regionOf s a = .boot j → bootRegionByte t j = bootRegionByte s j)
    (hcart : regionOf s a = .cart → cartByte t a = cartByte s a) : codeByte t a = codeByte s a := by
  unfold codeByte
  rw [hr]
  cases e : regionOf s a with
  | ram j => exact congrArg some (hram j e)
  | prgRam j => exact congrArg some (hprg j e)
  | boot j => exact congrArg some (hboot j e)
  | cart => exact hcart e
  | _ => rfl

/-- The decoder looks at the cartridge and at the presence of PRG-RAM, which no write moves. -/
theorem regionOf_congr_cart {s t : State} (hc : t.cart = s.cart) (hp : t.prgRam.isSome = s.prgRam.isSome) (a : Addr) :
    regionOf t a = regionOf s a :=
  regionOf_congr (by simp only [State.isNsf, hc]) hp a

/-- States that agree in the memories, the cartridge, the track and the mapper have the same bytes. -/
theorem sameBytes_of_eq {s t : State} (hram : t.ram = s.ram) (hprg : t.prgRam = s.prgRam) (hc : t.cart = s.cart)
    (ht : t.track = s.track) (hm : t.mapper = s.mapper) (hw : t.windows = s.windows) : SameBytes s t := fun a =>
  codeByte_congr (regionOf_congr_cart hc (by rw [hprg]) a) (fun _ _ => by rw [hram])
    (fun _ _ => by simp only [prgRamByte, hprg]) (fun _ _ => by simp only [bootRegionByte, hc, ht])
    (fun _ => by simp only [cartByte, hc, hm, hw])

theorem RegistersOnly.sameBytes {s t : State} (h : RegistersOnly s t) : SameBytes s t := by
  obtain ⟨a, x, y, sp, pc, p, rfl⟩ := h
  exact sameBytes_of_eq rfl rfl rfl rfl rfl rfl

/-- Regions after a read: neither the cartridge nor PRG-RAM moves. -/
theorem memRead_regionOf {ea : Addr} {s t : State} {b : Byte} (h : memRead ea s = .next (b, t)) (a : Addr) :
    regionOf t a = regionOf s a := by
  obtain ⟨-, -, -, -, -, -, -, hprg, -, -, -, hc, -⟩ := memRead_keeps h
  exact regionOf_congr_cart hc (by rw [hprg]) a

/-- A read leaves every byte. -/
theorem memRead_sameBytes {ea : Addr} {s t : State} {b : Byte} (h : memRead ea s = .next (b, t)) :
    SameBytes s t ∧ t.ram = s.ram ∧ t.prgRam = s.prgRam := by
  obtain ⟨-, -, -, -, -, -, hram, hprg, -, hm, hw, hc, ht, -⟩ := memRead_keeps h
  exact ⟨sameBytes_of_eq hram hprg hc ht hm hw, hram, hprg⟩

/-- A store leaves every byte outside its own region byte; one that moves windows, every byte outside the cartridge. -/
theorem memWrite_sameBytesBut {ea : Addr} {v : Byte} {s t : State} (h : memWrite ea v s = .next t) :
    SameBytesBut ea s t := by
  intro a hne hmoves
  have same : SameBytes s t → codeByte t a = codeByte s a := fun h => h a
  cases memWrite_effect h with
  | ram hr =>
    refine codeByte_congr (regionOf_congr rfl rfl a) (fun j hj => Memory.read_write_other _ _ fun e => hne ?_)
      (fun _ _ => rfl) (fun _ _ => rfl) (fun _ => rfl)
    rw [hj, hr, e]
  | @prgRam i hr =>
    refine codeByte_congr (regionOf_congr (s := s) (t := s.setPrgRam i v) rfl Option.isSome_map a) (fun _ _ => rfl)
      (fun j hj => ?_) (fun _ _ => rfl) (fun _ => rfl)
    have hji : j ≠ i := fun e => hne (by rw [hj, hr, e])
    cases hm : s.prgRam with
    | none => simp only [prgRamByte, State.setPrgRam, hm, Option.map_none]
    | some m => simp only [prgRamByte, State.setPrgRam, hm, Option.map_some, Memory.read_write_other m v hji]
  | nsfBank hr | mapper hr =>
    exact codeByte_congr (regionOf_congr rfl rfl a) (fun _ _ => rfl) (fun _ _ => rfl) (fun _ _ => rfl)
      (fun e => absurd e (hmoves (by rw [hr]; rfl)))
  | ppu | channel | enables | strobe | frameCounter => exact same (sameBytes_of_eq rfl rfl rfl rfl rfl rfl)

/-- Pushes write RAM and S only. -/
theorem pushAll_eq (bs : List Byte) (s : State) : ∃ ram sp, pushAll bs s = { s with ram := ram, sp := sp } := by
  induction bs generalizing s with
  | nil => exact ⟨s.ram, s.sp, rfl⟩
  | cons b bs ih =>
    obtain ⟨ram, sp, h⟩ := ih (push b s)
    exact ⟨ram, sp, h⟩

/-- Pushes leave every byte outside the stack bytes they write. -/
theorem pushAll_codeByte {bs : List Byte} {s : State} {a : Addr}
    (h : ∀ j, j < bs.length → regionOf s a ≠ .ram (stackByteAt (s.sp - BitVec.ofNat 8 j))) :
    codeByte (pushAll bs s) a = codeByte s a := by
  have hram (k : Nat) (hk : regionOf s a = .ram k) : (pushAll bs s).ram.read k = s.ram.read k :=
    pushAll_read_other fun j hj e => h j hj (hk.trans (congrArg Region.ram e))
  obtain ⟨ram, sp, e⟩ := pushAll_eq bs s
  rw [e] at hram ⊢
  exact codeByte_congr (regionOf_congr rfl rfl a) hram (fun _ _ => rfl) (fun _ _ => rfl) (fun _ => rfl)

theorem RegistersOnly.memories {s t : State} (h : RegistersOnly s t) :
    SameBytes s t ∧ t.ram = s.ram ∧ t.prgRam = s.prgRam := by
  refine ⟨h.sameBytes, ?_⟩
  obtain ⟨a, x, y, sp, pc, p, rfl⟩ := h
  exact ⟨rfl, rfl⟩

/-- Two rows of changes that leave memory leave memory. -/
theorem memories_trans {s t u : State} (h : SameBytes s t ∧ t.ram = s.ram ∧ t.prgRam = s.prgRam)
    (h' : SameBytes t u ∧ u.ram = t.ram ∧ u.prgRam = t.prgRam) : SameBytes s u ∧ u.ram = s.ram ∧ u.prgRam = s.prgRam := by
  obtain ⟨hb, hram, hprg⟩ := h
  obtain ⟨hb', hram', hprg'⟩ := h'
  exact ⟨fun a => (hb' a).trans (hb a), hram'.trans hram, hprg'.trans hprg⟩

/-! ## The frame of memory -/

/-- A store address is the operand's, of a storing or modifying mnemonic. -/
theorem storeAddr_eq_some {i : Instr} {s : State} {ea : Addr} (h : storeAddr i s = some ea) :
    (isStore i.mnemonic || isModify i.mnemonic) = true ∧ operandAddr i s = some ea :=
  Option.ite_none_right_eq_some.1 h

theorem storeAddr_of_kind {i : Instr} {s : State} (h : (isStore i.mnemonic || isModify i.mnemonic) = true) :
    storeAddr i s = operandAddr i s := if_pos h

theorem memoryFrameWithoutStores : MemoryFrameWithoutStores := by
  intro i s t hstore hpush h
  cases exec_effect h with
  | pushes bs _ _ hb ht =>
    rw [List.eq_nil_of_length_eq_zero (hb.trans hpush)] at ht
    exact ht.memories
  | read _ _ hr ht => exact memories_trans (memRead_sameBytes hr) ht.memories
  | store hop hi | modify hop hi =>
    rw [storeAddr_of_kind (by simp [hi]), hop] at hstore
    cases hstore
  | pointer _ _ hl hh ht =>
    exact memories_trans (memories_trans (memRead_sameBytes hl) (memRead_sameBytes hh)) ht.memories

theorem memoryFrameOfStores : MemoryFrameOfStores := by
  intro i s t ea hstore h a hne hmoves
  obtain ⟨hkind, hea⟩ := storeAddr_eq_some hstore
  cases exec_effect h with
  | pushes _ hop => rw [hop] at hea; cases hea
  | read _ hi =>
    obtain ⟨hs, hm, -⟩ := kind_of_isReading hi
    rw [hs, hm] at hkind
    cases hkind
  | store hop _ hw ht =>
    obtain rfl := Option.some.inj (hop.symm.trans hea)
    exact (ht.sameBytes a).trans (memWrite_sameBytesBut hw a hne hmoves)
  | modify hop _ hr hw ht =>
    obtain rfl := Option.some.inj (hop.symm.trans hea)
    rw [← memRead_regionOf hr, ← memRead_regionOf hr] at hne
    rw [← memRead_regionOf hr, ← memRead_regionOf hr a] at hmoves
    exact (ht.sameBytes a).trans ((memWrite_sameBytesBut hw a hne hmoves).trans ((memRead_sameBytes hr).1 a))
  | pointer hm => rw [operandAddr_of_indirect hm] at hea; cases hea

theorem memoryFrameOfPushes : MemoryFrameOfPushes := by
  intro i s t h hpush a ha
  cases exec_effect h with
  | pushes bs _ _ hb ht =>
    rw [← hb] at ha
    exact (ht.sameBytes a).trans (pushAll_codeByte ha)
  | read _ hi => exact absurd (kind_of_isReading hi).2.2 hpush.ne'
  | store _ hi => exact absurd (kind_of_isStore hi).2.2 hpush.ne'
  | modify _ hi => exact absurd (kind_of_isModify hi).2.2 hpush.ne'
  | pointer _ hp => exact absurd hp hpush.ne'

/-- Settles O26: an instruction's stores and pushes are the writes of its `Effect`, and each leaves the bytes it does not
reach. -/
theorem memoryFrame : Obligations.MemoryFrame :=
  ⟨memoryFrameWithoutStores, memoryFrameOfStores, memoryFrameOfPushes⟩

/-! ## Devices -/

theorem RegistersOnly.sameDevices {s t : State} (h : RegistersOnly s t) : SameDevices s t := by
  obtain ⟨a, x, y, sp, pc, p, rfl⟩ := h
  exact ⟨rfl, rfl, rfl, rfl, rfl, rfl⟩

theorem pushAll_sameDevices (bs : List Byte) (s : State) : SameDevices s (pushAll bs s) := by
  obtain ⟨ram, sp, h⟩ := pushAll_eq bs s
  rw [h]
  exact ⟨rfl, rfl, rfl, rfl, rfl, rfl⟩

/-- A read moves a device only at PPUSTATUS and at the controller ports (R63). -/
theorem memRead_devices {ea : Addr} {s t : State} {b : Byte} (h : memRead ea s = .next (b, t)) :
    DevicesAfterRead ea s t := by
  unfold DevicesAfterRead
  rcases memRead_effect h with rfl | ⟨hr, rfl⟩ | ⟨hr, rfl⟩ | ⟨hr, rfl⟩
  · exact ⟨rfl, rfl, rfl, rfl, rfl, fun _ => rfl, fun _ => rfl, fun _ _ => rfl, rfl, rfl⟩
  · exact ⟨rfl, rfl, rfl, rfl, rfl, fun e => absurd hr e, fun _ => rfl, fun _ _ => rfl, rfl, rfl⟩
  · exact ⟨rfl, rfl, rfl, rfl, rfl, fun _ => rfl, fun e => absurd hr e, fun e _ => absurd hr e, rfl, rfl⟩
  · exact ⟨rfl, rfl, rfl, rfl, rfl, fun _ => rfl, fun _ => rfl, fun _ e => absurd hr e, rfl, rfl⟩

/-- A store moves only the device of its address (R64). -/
theorem memWrite_devices {ea : Addr} {v : Byte} {s t : State} (h : memWrite ea v s = .next t) :
    DevicesAfterStore ea s t := by
  unfold DevicesAfterStore
  cases memWrite_effect h with
  | ram | prgRam => exact ⟨fun _ => rfl, fun _ => rfl, fun _ => rfl, fun _ => ⟨rfl, rfl⟩, rfl⟩
  | ppu p hr => rw [hr]; exact ⟨nofun, fun _ => rfl, fun _ => rfl, fun _ => ⟨rfl, rfl⟩, rfl⟩
  | channel hr | enables hr | frameCounter hr =>
    rw [hr]; exact ⟨fun _ => rfl, nofun, fun _ => rfl, fun _ => ⟨rfl, rfl⟩, rfl⟩
  | strobe hr => exact ⟨fun _ => rfl, fun _ => rfl, fun e => absurd hr e, fun _ => ⟨rfl, rfl⟩, rfl⟩
  | nsfBank hr | mapper hr => rw [hr]; exact ⟨fun _ => rfl, fun _ => rfl, fun _ => rfl, nofun, rfl⟩

/-- A read and then a store at one address move only the device of that address. -/
theorem modify_devices {ea : Addr} {b v : Byte} {s u t : State} (hr : memRead ea s = .next (b, u))
    (hw : memWrite ea v u = .next t) :
    (isPpuRegion (regionOf s ea) = false → t.ppu = s.ppu) ∧ (isApuRegion (regionOf s ea) = false → t.apu = s.apu) ∧
    (regionOf s ea ≠ .pad1 → t.pad = s.pad) ∧
    (movesWindows (regionOf s ea) = false → t.mapper = s.mapper ∧ t.windows = s.windows) ∧
    (regionOf s ea ≠ .pad1 → regionOf s ea ≠ .pad2 → t.drawCount = s.drawCount) := by
  obtain ⟨hapu, hmap, hwin, -, -, hppu, hpad, hdraw, -⟩ := memRead_devices hr
  obtain ⟨hppu', hapu', hpad', hmap', hdraw'⟩ := memWrite_devices hw
  rw [memRead_regionOf hr] at hppu' hapu' hpad' hmap'
  refine ⟨fun h => (hppu' h).trans (hppu fun e => ?_), fun h => (hapu' h).trans hapu, fun h => (hpad' h).trans (hpad h),
    fun h => ?_, fun h1 h2 => hdraw'.trans (hdraw h1 h2)⟩
  · rw [e] at h
    cases h
  · obtain ⟨hm, hn⟩ := hmap' h
    exact ⟨hm.trans hmap, hn.trans hwin⟩

/-! ## The frame of devices -/

/-- What JMP indirect's reads may not move: of the PPU the vblank flag alone is theirs (R359). -/
theorem pointer_devices {lo hi : Addr} {l h : Byte} {s u t : State} (hl : memRead lo s = .next (l, u))
    (hh : memRead hi u = .next (h, t)) :
    t.apu = s.apu ∧ t.mapper = s.mapper ∧ t.windows = s.windows ∧ t.ppu.ctrl = s.ppu.ctrl ∧ t.ppu.mask = s.ppu.mask := by
  obtain ⟨hapu, hmap, hwin, -, -, -, -, -, hctrl, hmask⟩ := memRead_devices hl
  obtain ⟨hapu', hmap', hwin', -, -, -, -, -, hctrl', hmask'⟩ := memRead_devices hh
  exact ⟨hapu'.trans hapu, hmap'.trans hmap, hwin'.trans hwin, hctrl'.trans hctrl, hmask'.trans hmask⟩

/-- Settles O27: the registers move no device, and each access of the instruction's `Effect` moves its own. -/
theorem devicesFrame : Obligations.DevicesFrame := by
  intro i s t h
  have hind := fun e => operandAddr_of_indirect (i := i) e s
  cases exec_effect h with
  | pushes bs hop hm _ ht =>
    obtain ⟨a, x, y, sp, pc, p, rfl⟩ := ht
    exact ⟨fun _ _ => pushAll_sameDevices bs s, fun e => absurd e hm, fun ea hea => nomatch hop.symm.trans hea⟩
  | read hop hi hr ht =>
    obtain ⟨hstore, hmodify, -⟩ := kind_of_isReading hi
    have hd := memRead_devices hr
    obtain ⟨a, x, y, sp, pc, p, rfl⟩ := ht
    refine ⟨fun e => (nomatch hop.symm.trans e), fun e => (nomatch hop.symm.trans (hind e)), fun ea hea => ?_⟩
    obtain rfl := Option.some.inj (hop.symm.trans hea)
    exact ⟨fun _ => hd, fun e => (nomatch hstore.symm.trans e), fun e => (nomatch hmodify.symm.trans e)⟩
  | store hop hi hw ht =>
    obtain ⟨hread, hmodify, -⟩ := kind_of_isStore hi
    have hd := memWrite_devices hw
    obtain ⟨a, x, y, sp, pc, p, rfl⟩ := ht
    refine ⟨fun e => (nomatch hop.symm.trans e), fun e => (nomatch hop.symm.trans (hind e)), fun ea hea => ?_⟩
    obtain rfl := Option.some.inj (hop.symm.trans hea)
    exact ⟨fun e => (nomatch hread.symm.trans e), fun _ => hd, fun e => (nomatch hmodify.symm.trans e)⟩
  | modify hop hi hr hw ht =>
    obtain ⟨hread, hstore, -⟩ := kind_of_isModify hi
    have hd := modify_devices hr hw
    obtain ⟨a, x, y, sp, pc, p, rfl⟩ := ht
    refine ⟨fun e => (nomatch hop.symm.trans e), fun e => (nomatch hop.symm.trans (hind e)), fun ea hea => ?_⟩
    obtain rfl := Option.some.inj (hop.symm.trans hea)
    exact ⟨fun e => (nomatch hread.symm.trans e), fun e => (nomatch hstore.symm.trans e), fun _ => hd⟩
  | pointer hm _ hl hh ht =>
    obtain ⟨hppu, hapu, hmap, hwin, -, -⟩ := ht.sameDevices
    rw [hppu, hapu, hmap, hwin]
    exact ⟨fun _ e => absurd hm e, fun _ => pointer_devices hl hh,
      fun ea hea => (nomatch (hind hm).symm.trans hea)⟩

end Sys2Proof.Machine
end

section
/-!
PROOFS. The mappers' registers as numbers, and MMC1's serial port (R112 to R114): one write by what it does with the shift
register, and five writes as one commit.
-/

namespace Sys2Proof.Machine
open Sys2Proof.Statements

/-! ## Bits and fields as numbers -/

/-- A field of a bit vector as a number. -/
theorem toNat_field {n : Nat} (b : BitVec n) (start len : Nat) :
    (b.extractLsb' start len).toNat = b.toNat / 2 ^ start % 2 ^ len := by
  rw [BitVec.extractLsb'_toNat, Nat.shiftRight_eq_div_pow]

/-- One bit of a bit vector as a digit of its number. -/
theorem getLsbD_eq_digit {n : Nat} (b : BitVec n) (i : Nat) : b.getLsbD i = decide (b.toNat / 2 ^ i % 2 = 1) := by
  rw [BitVec.getLsbD, Nat.testBit_eq_decide_div_mod_eq]

/-- The lowest bit of a byte as a number. -/
theorem toNat_getLsbD_zero (v : Byte) : (v.getLsbD 0).toNat = v.toNat % 2 := by
  rw [getLsbD_zero_eq]
  rcases Nat.mod_two_eq_zero_or_one v.toNat with h | h <;> rw [h] <;> rfl

/-! ## One write -/

section
variable {f : NesFile} {a : Addr} {v : Byte} {r : Mmc1} {w : Windows}

/-- The registers after the fifth write: the selected one holds the value, the shift register is empty (R113, R114). -/
def mmc1Committed (a : Addr) (value : BitVec 5) (r : Mmc1) : Mmc1 :=
  { mmc1Commit a value r with shift := 0, count := 0 }

theorem mmc1Write_clears (h : v.getLsbD 7 = true) :
    mmc1Write f a v r w = .next ({ r with shift := 0, count := 0 }, w) := if_pos h

theorem mmc1Write_counts (h : shiftsIn v) (hn : r.count ≠ 4) :
    mmc1Write f a v r w = .next ({ r with shift := mmc1ShiftIn v r.shift, count := r.count + 1 }, w) :=
  (if_neg (Bool.eq_false_iff.1 h)).trans (if_neg hn)

theorem mmc1Write_commits (h : shiftsIn v) (hn : r.count = 4) :
    mmc1Write f a v r w = andThen (mmc1Remap f (mmc1Committed a (mmc1ShiftIn v r.shift) r) w) fun w1 =>
      .next (mmc1Committed a (mmc1ShiftIn v r.shift) r, w1) :=
  (if_neg (Bool.eq_false_iff.1 h)).trans (if_pos hn)

/-- A shift drops the lowest bit and brings the new one in at the top (R113). -/
theorem toNat_mmc1ShiftIn (v : Byte) (shift : BitVec 5) :
    (mmc1ShiftIn v shift).toNat = shift.toNat / 2 + 16 * (v.toNat % 2) := by
  have hbit : v.toNat % 2 = (v.extractLsb' 0 1).toNat := by rw [toNat_field, pow_zero, Nat.div_one, pow_one]
  rw [mmc1ShiftIn, hbit]
  generalize v.extractLsb' 0 1 = bit
  revert shift bit
  decide

/-- In the cartridge space the address selects its register by the 8 KiB it lies in (R114). -/
theorem committed_eq (value : BitVec 5) (r : Mmc1) (ha : 0x8000 ≤ a.toNat) :
    committed a value r = mmc1Committed a value r := by
  have h4 : a.toNat / 0x2000 = 4 ↔ a.toNat < 0xA000 := by omega
  have h5 : ¬a.toNat < 0xA000 → (a.toNat / 0x2000 = 5 ↔ a.toNat < 0xC000) := by omega
  have h6 : ¬a.toNat < 0xC000 → (a.toNat / 0x2000 = 6 ↔ a.toNat < 0xE000) := by omega
  unfold committed mmc1Committed mmc1Commit
  by_cases hA : a.toNat < 0xA000
  · rw [if_pos hA, if_pos (h4.2 hA)]
  rw [if_neg hA, if_neg (mt h4.1 hA)]
  by_cases hC : a.toNat < 0xC000
  · rw [if_pos hC, if_pos ((h5 hA).2 hC)]
  rw [if_neg hC, if_neg (mt (h5 hA).1 hC)]
  by_cases hE : a.toNat < 0xE000
  · rw [if_pos hE, if_pos ((h6 hC).2 hE)]
  · rw [if_neg hE, if_neg (mt (h6 hC).1 hE)]

end

theorem mmc1Write_protocol : Mmc1Write := by
  intro f r w a v
  refine ⟨mmc1Write_clears, fun h => ⟨_, toNat_mmc1ShiftIn v r.shift, fun hn => ?_, fun hn ha => ?_⟩⟩
  · exact mmc1Write_counts h (Nat.ne_of_lt hn)
  · rw [committed_eq _ _ ha, mmc1Write_commits h hn]

/-! ## Five writes -/

/-- What a commit does with the shift register and the count it finds: nothing. -/
theorem mmc1Committed_shifted (a : Addr) (value shift : BitVec 5) (n : Nat) (r : Mmc1) :
    mmc1Committed a value { r with shift := shift, count := n } = mmc1Committed a value r := by
  unfold mmc1Committed mmc1Commit
  split_ifs <;> rfl

/-- Committing the same value again changes no register. -/
theorem mmc1Committed_again (a : Addr) (value : BitVec 5) (r : Mmc1) :
    mmc1Committed a value (mmc1Committed a value r) = mmc1Committed a value r := by
  unfold mmc1Committed mmc1Commit
  split_ifs <;> rfl

/-- Five shifts fill the shift register, the first bit lowest, whatever it held (R113). -/
theorem mmc1ShiftIn_five (v1 v2 v3 v4 v5 : Byte) (shift : BitVec 5) :
    mmc1ShiftIn v5 (mmc1ShiftIn v4 (mmc1ShiftIn v3 (mmc1ShiftIn v2 (mmc1ShiftIn v1 shift)))) =
      fiveBits (v1.getLsbD 0) (v2.getLsbD 0) (v3.getLsbD 0) (v4.getLsbD 0) (v5.getLsbD 0) := by
  apply BitVec.eq_of_toNat_eq
  have hs := shift.isLt
  simp only [toNat_mmc1ShiftIn, fiveBits, toNat_getLsbD_zero, BitVec.toNat_ofNat]
  omega

section
variable {f : NesFile} {r : Mmc1} {w : Windows}

/-- A write below the fifth goes on with its bit shifted in. -/
theorem mmc1Writes_counts {a : Addr} {v : Byte} {rest : List (Addr × Byte)} {shift : BitVec 5} {n : Nat} (h : shiftsIn v)
    (hn : n ≠ 4) : mmc1Writes f ((a, v) :: rest) ({ r with shift := shift, count := n }, w) =
      mmc1Writes f rest ({ r with shift := mmc1ShiftIn v shift, count := n + 1 }, w) := by
  rw [mmc1Writes, mmc1Write_counts h hn, andThen_next]

/-- From count 0, five writes with bit 7 clear are one commit and one `Remap()`, whatever the fifth address (R113). -/
theorem mmc1Writes_five {a1 a2 a3 a4 a5 : Addr} {v1 v2 v3 v4 v5 : Byte} (hn : r.count = 0) (h1 : shiftsIn v1)
    (h2 : shiftsIn v2) (h3 : shiftsIn v3) (h4 : shiftsIn v4) (h5 : shiftsIn v5) {value : BitVec 5}
    (hv : fiveBits (v1.getLsbD 0) (v2.getLsbD 0) (v3.getLsbD 0) (v4.getLsbD 0) (v5.getLsbD 0) = value) :
    mmc1Writes f [(a1, v1), (a2, v2), (a3, v3), (a4, v4), (a5, v5)] (r, w) =
      andThen (mmc1Remap f (mmc1Committed a5 value r) w) fun w1 => .next (mmc1Committed a5 value r, w1) := by
  have hr : r = { r with shift := r.shift, count := 0 } := by rw [← hn]
  have hlast {shift : BitVec 5} : mmc1Writes f [(a5, v5)] ({ r with shift := shift, count := 4 }, w) =
      andThen (mmc1Remap f (mmc1Committed a5 (mmc1ShiftIn v5 shift) r) w) fun w1 =>
        .next (mmc1Committed a5 (mmc1ShiftIn v5 shift) r, w1) := by
    rw [mmc1Writes, mmc1Write_commits h5 rfl, mmc1Committed_shifted]
    cases mmc1Remap f (mmc1Committed a5 (mmc1ShiftIn v5 shift) r) w <;> rfl
  rw [hr, mmc1Writes_counts h1 (by decide), mmc1Writes_counts h2 (by decide), mmc1Writes_counts h3 (by decide),
    mmc1Writes_counts h4 (by decide), hlast, mmc1ShiftIn_five, hv, ← hr]

end

/-- Settles O43: a write shifts or clears, and after five shifts nothing of the old shift register is left. -/
theorem mmc1SerialProtocol : Obligations.Mmc1SerialProtocol := by
  refine ⟨mmc1Write_protocol, fun f r w a1 a2 a3 a4 a5 v1 v2 v3 v4 v5 hn ha h1 h2 h3 h4 h5 => ?_⟩
  rw [committed_eq _ _ ha]
  exact mmc1Writes_five hn h1 h2 h3 h4 h5 rfl

end Sys2Proof.Machine
end

section
/-!
PROOFS. MMC1's `Remap()` (R116) as one rule: it asks for a list of windows, faults at the first one outside its image, and else
installs them all.
-/

namespace Sys2Proof.Machine
open Sys2Proof.Statements

/-! ## The first window outside its image -/

/-- The offset of the first requested window (width, offset, size) that lies outside its image (R105, R106). -/
def firstBad (requests : List (Nat × Nat × Nat)) : Option Nat :=
  (requests.find? fun q => decide (q.2.2 < q.2.1 + q.1)).map (·.2.1)

theorem firstOutside_eq (prg chr : Nat) (r : Mmc1) : firstOutside prg chr r = firstBad (requestedWindows prg chr r) := rfl

@[simp] theorem firstBad_nil : firstBad [] = none := rfl

theorem firstBad_cons (n o size : Nat) (rest : List (Nat × Nat × Nat)) :
    firstBad ((n, o, size) :: rest) = if size < o + n then some o else firstBad rest := by
  rw [firstBad, List.find?_cons]
  by_cases h : size < o + n
  · rw [if_pos h, decide_eq_true h]
    rfl
  · rw [if_neg h, decide_eq_false h]
    rfl

theorem firstBad_append (xs ys : List (Nat × Nat × Nat)) : firstBad (xs ++ ys) = (firstBad xs).or (firstBad ys) := by
  rw [firstBad, List.find?_append, Option.map_or]
  rfl

/-- Faults with an offset where there is one, else answers the windows. -/
def faultOr (bad : Option Nat) (w : Windows) : Out Windows :=
  match bad with
  | some o => .fault (.bankOutOfRange o)
  | none => .next w

/-- Two installations in a row fault at the first window outside. -/
theorem andThen_faultOr (bad bad' : Option Nat) (w : Windows) (g : Windows → Windows) :
    (andThen (faultOr bad w) fun w1 => faultOr bad' (g w1)) = faultOr (bad.or bad') (g w) := by
  cases bad <;> rfl

/-- The guard of every window function (R105, R106). -/
theorem guard_eq_faultOr (n o size : Nat) (w : Windows) :
    (if o + n > size then .fault (.bankOutOfRange o) else .next w : Out Windows) = faultOr (firstBad [(n, o, size)]) w := by
  rw [firstBad_cons]
  by_cases h : size < o + n
  · rw [if_pos h, if_pos h]
    rfl
  · rw [if_neg h, if_neg h]
    rfl

section
variable (size o : Nat) (w : Windows)

theorem mapPrgLo_eq_faultOr : mapPrgLo size o w = faultOr (firstBad [(16384, o, size)]) { w with prgLo := o } :=
  guard_eq_faultOr 16384 o size _

theorem mapPrgHi_eq_faultOr : mapPrgHi size o w = faultOr (firstBad [(16384, o, size)]) { w with prgHi := o } :=
  guard_eq_faultOr 16384 o size _

theorem mapPrgBoth_eq_faultOr :
    mapPrgBoth size o w = faultOr (firstBad [(32768, o, size)]) { w with prgLo := o, prgHi := o + 16384 } :=
  guard_eq_faultOr 32768 o size _

theorem mapChr0_eq_faultOr : mapChr0 size o w = faultOr (firstBad [(4096, o, size)]) { w with chr0 := o } :=
  guard_eq_faultOr 4096 o size _

theorem mapChr1_eq_faultOr : mapChr1 size o w = faultOr (firstBad [(4096, o, size)]) { w with chr1 := o } :=
  guard_eq_faultOr 4096 o size _

end

/-- A window of each half, the low one first. -/
theorem mapPrgLo_mapPrgHi (size lo hi : Nat) (w : Windows) :
    (andThen (mapPrgLo size lo w) fun w1 => mapPrgHi size hi w1) =
      faultOr (firstBad [(16384, lo, size), (16384, hi, size)]) { w with prgLo := lo, prgHi := hi } := by
  simp only [mapPrgLo_eq_faultOr, mapPrgHi_eq_faultOr, andThen_faultOr _ _ _ fun w1 => { w1 with prgHi := hi },
    ← firstBad_append, List.cons_append, List.nil_append]

/-- Both CHR windows, window 0 first. -/
theorem mapChr0_mapChr1 (size o0 o1 : Nat) (w : Windows) :
    (andThen (mapChr0 size o0 w) fun w1 => mapChr1 size o1 w1) =
      faultOr (firstBad [(4096, o0, size), (4096, o1, size)]) { w with chr0 := o0, chr1 := o1 } := by
  simp only [mapChr0_eq_faultOr, mapChr1_eq_faultOr, andThen_faultOr _ _ _ fun w1 => { w1 with chr1 := o1 },
    ← firstBad_append, List.cons_append, List.nil_append]

/-! ## The two halves of `Remap()` -/

/-- The PRG windows that `Remap()` asks for. -/
def prgRequests (size : Nat) (r : Mmc1) : List (Nat × Nat × Nat) :=
  if r.control.toNat / 4 % 4 < 2 then [(32768, (prgOffsets size r).1, size)]
  else [(16384, (prgOffsets size r).1, size), (16384, (prgOffsets size r).2, size)]

/-- The CHR windows that `Remap()` asks for. -/
def chrRequests (size : Nat) (r : Mmc1) : List (Nat × Nat × Nat) :=
  if size = 0 then [] else [(4096, (chrOffsets r).1, size), (4096, (chrOffsets r).2, size)]

theorem requestedWindows_eq (prg chr : Nat) (r : Mmc1) :
    requestedWindows prg chr r = prgRequests prg r ++ chrRequests chr r := rfl

theorem mmc1PrgMode_eq (r : Mmc1) : mmc1PrgMode r = r.control.toNat / 4 % 4 := toNat_field r.control 2 2

theorem mmc1Bank_eq (r : Mmc1) : mmc1Bank r = r.prgBank.toNat % 16 := by
  rw [mmc1Bank, toNat_field, pow_zero, Nat.div_one]
  rfl

/-- The PRG half of `Remap()` in every mode. -/
theorem mmc1RemapPrg_eq (size : Nat) (r : Mmc1) (w : Windows) :
    mmc1RemapPrg size r w = faultOr (firstBad (prgRequests size r))
      { w with prgLo := (prgOffsets size r).1, prgHi := (prgOffsets size r).2 } := by
  have hmode : r.control.toNat / 4 % 4 < 4 := Nat.mod_lt _ (by decide)
  simp only [mmc1RemapPrg, prgRequests, prgOffsets, mmc1PrgMode_eq, mmc1Bank_eq]
  generalize r.control.toNat / 4 % 4 = mode at hmode ⊢
  match mode with
  | 0 => exact mapPrgBoth_eq_faultOr ..
  | 1 => exact mapPrgBoth_eq_faultOr ..
  | 2 => exact mapPrgLo_mapPrgHi ..
  | 3 => exact mapPrgLo_mapPrgHi ..

/-- Bit 4 of the control register, the CHR mode. -/
theorem chrMode_eq_false (r : Mmc1) : r.control.getLsbD 4 = false ↔ r.control.toNat / 16 % 2 = 0 := by
  rw [getLsbD_eq_digit, decide_eq_false_iff_not, ← ne_eq, Nat.mod_two_ne_one]
  rfl

/-- The CHR half of `Remap()` in both modes, and with CHR-RAM. -/
theorem mmc1RemapChr_eq (size : Nat) (r : Mmc1) (w : Windows) :
    mmc1RemapChr size r w = faultOr (firstBad (chrRequests size r))
      { w with chr0 := if size = 0 then w.chr0 else (chrOffsets r).1
               chr1 := if size = 0 then w.chr1 else (chrOffsets r).2 } := by
  by_cases h0 : size = 0
  · simp only [mmc1RemapChr, chrRequests, if_pos h0]
    rfl
  · simp only [mmc1RemapChr, chrRequests, chrOffsets, if_neg h0, chrMode_eq_false, evenBank, mapChr0_mapChr1, chrWindow]
    by_cases hm : r.control.toNat / 16 % 2 = 0
    · simp only [if_pos hm]
    · simp only [if_neg hm]

/-- `Remap()` faults at the first window outside its image, else it installs them all (R116). -/
theorem mmc1Remap_eq (f : NesFile) (r : Mmc1) (w : Windows) :
    mmc1Remap f r w = faultOr (firstOutside f.prg.size f.chr.size r)
      { prgLo := (prgOffsets f.prg.size r).1
        prgHi := (prgOffsets f.prg.size r).2
        chr0 := if f.chr.size = 0 then w.chr0 else (chrOffsets r).1
        chr1 := if f.chr.size = 0 then w.chr1 else (chrOffsets r).2 } := by
  rw [mmc1Remap, mmc1RemapPrg_eq, firstOutside_eq, requestedWindows_eq, firstBad_append]
  cases firstBad (prgRequests f.prg.size r) with
  | some o => rfl
  | none => exact mmc1RemapChr_eq ..

/-- Settles O44: `Remap()` is its list of windows, and what it installs does not depend on the windows it finds. (The
obligation's own name in lowerCamelCase is the model's function.) -/
theorem mmc1Remap_installs_or_faults : Obligations.Mmc1Remap := by
  intro f r w
  rw [mmc1Remap_eq]
  refine ⟨fun o ho => by rw [ho]; rfl, fun hfit => by rw [hfit]; rfl, fun w1 h => ?_⟩
  exact (mmc1Remap_settles ((mmc1Remap_eq f r w).trans h)).1

end Sys2Proof.Machine
end

section
/-!
PROOFS. Bank writes and bank-indexed reads (R110, R120, R123, R124), bank switching is idempotent (R125), and the PPU's own
address space (R106 to R108).
-/

namespace Sys2Proof.Machine
open Sys2Proof.Statements

/-! ## Bank writes and NSF reads -/

theorem mapPrgLo_fault {size o : Nat} {w : Windows} (h : size < o + 16384) :
    mapPrgLo size o w = .fault (.bankOutOfRange o) := if_pos h

theorem bankWrites : BankWrites := by
  refine ⟨fun _ _ _ _ => rfl, fun f w a v bank => ⟨fun hfit => ?_, fun hbad => ?_⟩, fun i v banks banked _ => ?_⟩
  · rw [mapperWrite, prgWindow, mapPrgLo_eq hfit, andThen_next]
  · rw [mapperWrite, prgWindow, mapPrgLo_fault hbad, andThen_fault]
  · refine ⟨banks.setIfInBounds i v, rfl, fun k hk => ?_⟩
    simp only [Vector.getElem_setIfInBounds, eq_comm]

theorem nsfReads : NsfReads := by
  intro f banks a ha
  refine ⟨fun k hk => ?_, fun hpage k hk => ?_⟩
  · have hindex : nsfIndex f banks false a = k := hk
    simp only [nsfRead, hindex]
  · have hindex : nsfIndex f banks true a = (k : Int) := by
      simp only [nsfIndex, if_true, Vector.getElem?_eq_getElem hpage, Option.getD_some, hk]
    simp only [nsfRead, hindex, Int.natCast_nonneg, true_and, Int.ofNat_lt, Int.toNat_natCast]

/-- Settles O45: a UxROM write is `MapPrg` of the low window, an NSF read is its index into the data. -/
theorem bankWritesAndNsfReads : Obligations.BankWritesAndNsfReads := ⟨bankWrites, nsfReads⟩

/-! ## Switching again -/

/-- Settles O47: the second switch asks for the windows and registers that the first one left. -/
theorem bankSwitchIsIdempotent : Obligations.BankSwitchIsIdempotent := by
  refine ⟨fun f a v bank w m w1 h => ?_, fun f a v1 v2 v3 v4 v5 r r1 w w1 hn h1 h2 h3 h4 h5 h => ?_⟩
  · obtain ⟨w2, hmap, heq⟩ := andThen_eq_next.1 h
    cases heq
    obtain ⟨hfit, rfl⟩ := of_guard_eq_next hmap
    exact andThen_eq_next.2 ⟨_, mapPrgLo_eq (Nat.le_of_not_lt hfit), rfl⟩
  · rw [mmc1Writes_five hn h1 h2 h3 h4 h5 rfl] at h
    obtain ⟨w2, hmap, heq⟩ := andThen_eq_next.1 h
    cases heq
    rw [mmc1Writes_five rfl h1 h2 h3 h4 h5 rfl, mmc1Committed_again]
    exact andThen_eq_next.2 ⟨_, (mmc1Remap_settles hmap).1, rfl⟩

/-! ## The PPU's address space -/

/-- The window of a pattern address: bit 12 is set from $1000 on. -/
theorem patternBit_eq_true (pa : BitVec 13) : pa.getLsbD 12 = true ↔ ¬pa.toNat < 0x1000 := by
  have := pa.isLt
  rw [getLsbD_eq_digit, decide_eq_true_eq]
  omega

theorem patternRead_eq (f : NesFile) (w : Windows) (p : PpuState) (pa : BitVec 13) :
    patternRead f w p pa =
      if f.chr.size = 0 then p.chrRam.read pa.toNat
      else if pa.toNat < 0x1000 then f.chr.cells.read (w.chr0 + pa.toNat)
      else f.chr.cells.read (w.chr1 + (pa.toNat - 0x1000)) := by
  have hlt := pa.isLt
  rw [patternRead]
  by_cases h : pa.toNat < 0x1000
  · rw [if_neg (mt (patternBit_eq_true pa).1 (not_not_intro h)), if_pos h, Nat.mod_eq_of_lt h]
  · rw [if_pos ((patternBit_eq_true pa).2 h), if_neg h, Nat.mod_eq_sub_mod (by omega), Nat.mod_eq_of_lt (by omega)]

theorem nametableIndex_vertical (pa : BitVec 14) : nametableIndex true pa = pa.toNat % 0x800 := by
  rw [nametableIndex, if_pos rfl, BitVec.toNat_and]
  exact Nat.and_two_pow_sub_one_eq_mod pa.toNat 11

/-- The horizontal translation: bit 11 moves down to bit 10, above the ten low bits. -/
theorem nametableIndex_horizontal (pa : BitVec 14) :
    nametableIndex false pa = pa.toNat % 0x400 + pa.toNat / 0x800 % 2 * 0x400 := by
  have hlow : (pa &&& 0x03FF).toNat = pa.toNat % 2 ^ 10 := by
    rw [BitVec.toNat_and]
    exact Nat.and_two_pow_sub_one_eq_mod pa.toNat 10
  have hhigh : ((pa &&& 0x0800) >>> 1).toNat = 2 ^ 10 * (pa.toNat / 2 ^ 11 % 2) := by
    have hand : (pa &&& 0x0800).toNat = 2 ^ 11 * (pa.toNat / 2 ^ 11 % 2) := by
      rw [BitVec.toNat_and, Nat.and_comm, ← Nat.toNat_testBit]
      exact Nat.two_pow_and pa.toNat 11
    rw [BitVec.toNat_ushiftRight, hand, Nat.shiftRight_eq_div_pow]
    omega
  have hor : nametableIndex false pa = (pa &&& 0x03FF).toNat ||| ((pa &&& 0x0800) >>> 1).toNat := BitVec.toNat_or ..
  rw [hor, hlow, hhigh, Nat.or_comm, ← Nat.two_pow_add_eq_or_of_lt (Nat.mod_lt _ (by decide))]
  omega

/-- Settles O48: the two windows split pattern memory at $1000, and each mirroring keeps the bits that name its tables. -/
theorem ppuAddressSpace : Obligations.PpuAddressSpace :=
  ⟨patternRead_eq, fun pa => ⟨nametableIndex_vertical pa, nametableIndex_horizontal pa, fun _ _ => rfl⟩⟩

end Sys2Proof.Machine
end

section
/-!
PROOFS. `initialize()` of each variant (R103, R109, R117, R119, R122): what it installs on the images it takes, and its fault on
each other.
-/

namespace Sys2Proof.Machine
open Sys2Proof.Statements

/-! ## The CHR rule -/

/-- On CHR-RAM or on 8 KiB and more the CHR rule completes and leaves the PRG windows (R109). -/
theorem initChr_completes {size : Nat} (h : size = 0 ∨ 8192 ≤ size) (w : Windows) :
    ∃ w', initChr size w = .next w' ∧ w'.prgLo = w.prgLo ∧ w'.prgHi = w.prgHi ∧
      (0 < size → w'.chr0 = 0 ∧ w'.chr1 = 4096) := by
  by_cases h0 : size = 0
  · exact ⟨w, if_pos h0, rfl, rfl, fun hpos => absurd h0 (Nat.ne_of_gt hpos)⟩
  · have hbig : ¬size < 2 * chrWindow := Nat.not_lt.2 (h.resolve_left h0)
    exact ⟨_, (if_neg h0).trans (if_neg hbig), rfl, rfl, fun _ => ⟨rfl, rfl⟩⟩

/-- A CHR image that does not fill both windows is the CHR rule's fault (R109; the number is log entry 12's). -/
theorem initChr_short {size : Nat} (hpos : 0 < size) (h : size < 8192) (w : Windows) :
    initChr size w = .fault (.bankOutOfRange size) :=
  (if_neg (Nat.ne_of_gt hpos)).trans (if_pos h)

section
variable {f : NesFile}

/-- The cartridge powers up with the mapper state and the PRG windows at the two offsets, and with its CHR windows, where it has
CHR bytes, on its first 8 KiB. -/
def StartsAt (f : NesFile) (m : MapperState) (lo hi : Nat) : Prop :=
  ∃ w, powerUpMapper (.nes f) = .next (m, w) ∧ w.prgLo = lo ∧ w.prgHi = hi ∧
    (0 < f.chr.size → w.chr0 = 0 ∧ w.chr1 = 4096)

/-- The power-up is the CHR rule after the PRG windows of w: NROM's and UxROM's. -/
def EndsInChrRule (f : NesFile) (m : MapperState) (w : Windows) : Prop :=
  powerUpMapper (.nes f) = andThen (initChr f.chr.size w) fun w1 => .next (m, w1)

theorem EndsInChrRule.startsAt {m : MapperState} {w : Windows} (h : EndsInChrRule f m w)
    (hchr : f.chr.size = 0 ∨ 8192 ≤ f.chr.size) : StartsAt f m w.prgLo w.prgHi := by
  obtain ⟨w1, hinit, hkept⟩ := initChr_completes hchr w
  exact ⟨w1, h.trans (by rw [hinit, andThen_next]), hkept⟩

theorem EndsInChrRule.fault {m : MapperState} {w : Windows} (h : EndsInChrRule f m w) (hpos : 0 < f.chr.size)
    (hshort : f.chr.size < 8192) : powerUpMapper (.nes f) = .fault (.bankOutOfRange f.chr.size) :=
  h.trans (by rw [initChr_short hpos hshort, andThen_fault])

/-! ## NROM -/

theorem powerUpMapper_nrom (h : f.mapperId = 0) : powerUpMapper (.nes f) = initNrom f := by
  rw [powerUpMapper, h]
  rfl

theorem nrom_oneBank (h : f.mapperId = 0) (hprg : f.prg.size = 16384) :
    EndsInChrRule f .nrom { Windows.none with prgLo := 0, prgHi := 0 } :=
  (powerUpMapper_nrom h).trans (if_pos hprg)

theorem nrom_twoBanks (h : f.mapperId = 0) (hprg : f.prg.size = 32768) :
    EndsInChrRule f .nrom { Windows.none with prgLo := 0, prgHi := 16384 } :=
  (powerUpMapper_nrom h).trans ((if_neg (by rw [hprg]; decide)).trans (if_pos hprg))

theorem nrom_fault (h : f.mapperId = 0) (h1 : f.prg.size ≠ 16384) (h2 : f.prg.size ≠ 32768) :
    powerUpMapper (.nes f) = .fault (.bankOutOfRange f.prg.size) :=
  (powerUpMapper_nrom h).trans ((if_neg h1).trans (if_neg h2))

/-! ## UxROM -/

theorem powerUpMapper_uxrom (h : f.mapperId = 2) : powerUpMapper (.nes f) = initUxrom f := by
  rw [powerUpMapper, h]
  rfl

theorem uxrom_fits (h : f.mapperId = 2) (hprg : 16384 ≤ f.prg.size) :
    EndsInChrRule f (.uxrom 0) { Windows.none with prgLo := 0, prgHi := f.prg.size - 16384 } := by
  rw [EndsInChrRule, powerUpMapper_uxrom h, initUxrom, prgWindow, mapPrgLo_eq (by omega), andThen_next,
    mapPrgHi_eq (by omega), andThen_next]

theorem uxrom_fault (h : f.mapperId = 2) (hprg : f.prg.size < 16384) :
    powerUpMapper (.nes f) = .fault (.bankOutOfRange 0) := by
  rw [powerUpMapper_uxrom h, initUxrom, mapPrgLo_fault (by omega), andThen_fault]

/-! ## MMC1 -/

/-- The first window outside that the power-up registers ask for: the low PRG half, else a CHR window. -/
theorem firstOutside_reset (prg chr : Nat) :
    firstOutside prg chr Mmc1.reset =
      if prg < 16384 then some 0 else if chr = 0 then none else if chr < 4096 then some 0
      else if chr < 8192 then some 4096 else none := by
  have hprg : firstBad (prgRequests prg Mmc1.reset) = if prg < 16384 then some 0 else none := by
    have hrequests : prgRequests prg Mmc1.reset = [(16384, 0, prg), (16384, prg - 16384, prg)] := rfl
    have hhigh : prg < prg - 16384 + 16384 ↔ prg < 16384 := by omega
    simp only [hrequests, firstBad_cons, firstBad_nil, hhigh, Nat.zero_add]
    split_ifs <;> rfl
  have hchr : firstBad (chrRequests chr Mmc1.reset) =
      if chr = 0 then none else if chr < 4096 then some 0 else if chr < 8192 then some 4096 else none := by
    have hoffsets : chrOffsets Mmc1.reset = (0, 4096) := rfl
    by_cases h0 : chr = 0
    · rw [chrRequests, if_pos h0, if_pos h0, firstBad_nil]
    · rw [chrRequests, hoffsets, if_neg h0, if_neg h0, firstBad_cons, firstBad_cons, firstBad_nil, Nat.zero_add]
  rw [firstOutside_eq, requestedWindows_eq, firstBad_append, hprg, hchr]
  by_cases h : prg < 16384
  · rw [if_pos h, if_pos h, Option.some_or]
  · rw [if_neg h, if_neg h, Option.none_or]

/-- MMC1's `initialize()` is its `Remap()`: the low bank 0 and the last bank, and the first two CHR banks (R117). -/
theorem powerUpMapper_mmc1 (h : f.mapperId = 1) :
    powerUpMapper (.nes f) = andThen
      (faultOr (firstOutside f.prg.size f.chr.size Mmc1.reset)
        { prgLo := 0
          prgHi := f.prg.size - 16384
          chr0 := 0
          chr1 := if f.chr.size = 0 then 0 else 4096 })
      fun w => .next (.mmc1 Mmc1.reset, w) := by
  have hid : powerUpMapper (.nes f) = initMmc1 f := by
    rw [powerUpMapper, h]
    rfl
  have hchr0 : (if f.chr.size = 0 then Windows.none.chr0 else (chrOffsets Mmc1.reset).1) = 0 := ite_self 0
  rw [hid, initMmc1, mmc1Remap_eq, hchr0]
  rfl

theorem mmc1_startsAt (h : f.mapperId = 1) (hchr : f.chr.size = 0 ∨ 8192 ≤ f.chr.size) (hprg : 16384 ≤ f.prg.size) :
    StartsAt f (.mmc1 Mmc1.reset) 0 (f.prg.size - 16384) := by
  have hfit : firstOutside f.prg.size f.chr.size Mmc1.reset = none := by
    rw [firstOutside_reset, if_neg (Nat.not_lt.2 hprg)]
    rcases hchr with h0 | hbig
    · exact if_pos h0
    · rw [if_neg (by omega), if_neg (by omega), if_neg (by omega)]
  have hstart := powerUpMapper_mmc1 h
  rw [hfit, faultOr, andThen_next] at hstart
  exact ⟨_, hstart, rfl, rfl, fun hpos => ⟨rfl, if_neg (Nat.ne_of_gt hpos)⟩⟩

theorem mmc1_faults (h : f.mapperId = 1) {o : Nat} (hbad : firstOutside f.prg.size f.chr.size Mmc1.reset = some o) :
    powerUpMapper (.nes f) = .fault (.bankOutOfRange o) := by
  rw [powerUpMapper_mmc1 h, hbad, faultOr, andThen_fault]

theorem mmc1_prgFault (h : f.mapperId = 1) (hprg : f.prg.size < 16384) :
    powerUpMapper (.nes f) = .fault (.bankOutOfRange 0) :=
  mmc1_faults h (by rw [firstOutside_reset, if_pos hprg])

theorem mmc1_chrFault (h : f.mapperId = 1) (hprg : 16384 ≤ f.prg.size) (hpos : 0 < f.chr.size) (hshort : f.chr.size < 8192) :
    powerUpMapper (.nes f) = .fault (.bankOutOfRange (if f.chr.size < 4096 then 0 else 4096)) := by
  refine mmc1_faults h ?_
  rw [firstOutside_reset, if_neg (Nat.not_lt.2 hprg), if_neg (Nat.ne_of_gt hpos), if_pos hshort]
  split_ifs <;> rfl

/-! ## The variants together -/

/-- A short CHR image is the fault of each of the three, on every PRG image that NROM takes. -/
theorem shortChr_faults (h : f.mapperId.toNat < 3) (hprg : f.prg.size = 16384 ∨ f.prg.size = 32768) (hpos : 0 < f.chr.size)
    (hshort : f.chr.size < 8192) : ∃ offset, powerUpMapper (.nes f) = .fault (.bankOutOfRange offset) := by
  have hbank : 16384 ≤ f.prg.size := by omega
  have hid : f.mapperId = 0 ∨ f.mapperId = 1 ∨ f.mapperId = 2 := by
    simp only [← BitVec.toNat_inj]
    exact (by omega : f.mapperId.toNat = 0 ∨ f.mapperId.toNat = 1 ∨ f.mapperId.toNat = 2)
  rcases hid with hid | hid | hid
  · rcases hprg with hprg | hprg
    · exact ⟨_, (nrom_oneBank hid hprg).fault hpos hshort⟩
    · exact ⟨_, (nrom_twoBanks hid hprg).fault hpos hshort⟩
  · exact ⟨_, mmc1_chrFault hid hbank hpos hshort⟩
  · exact ⟨_, (uxrom_fits hid hbank).fault hpos hshort⟩

theorem powerUpMapper_unsupported (h : 3 ≤ f.mapperId.toNat) :
    powerUpMapper (.nes f) = .fault (.unsupportedMapper f.mapperId.toNat) := by
  obtain ⟨n, hn⟩ := Nat.exists_eq_add_of_le' h
  simp only [powerUpMapper, hn]

end

/-- Settles O46: NROM and UxROM end in the CHR rule, MMC1 is its `Remap()` of the power-up registers. -/
theorem mapperInitialize : Obligations.MapperInitialize :=
  ⟨fun _ hid hchr hprg => (nrom_oneBank hid hprg).startsAt hchr,
    fun _ hid hchr hprg => (nrom_twoBanks hid hprg).startsAt hchr,
    fun _ hid h1 h2 => nrom_fault hid h1 h2,
    fun _ hid hchr hprg => mmc1_startsAt hid hchr hprg,
    fun _ hid hchr hprg => (uxrom_fits hid hprg).startsAt hchr,
    fun _ hid hprg hpos hshort => shortChr_faults hid hprg hpos hshort,
    fun _ hid hprg => hid.elim (mmc1_prgFault · hprg) (uxrom_fault · hprg),
    fun _ hid hprg hpos hshort => mmc1_chrFault hid hprg hpos hshort,
    fun _ hid hprg hpos hshort => ⟨_, (uxrom_fits hid hprg).fault hpos hshort⟩,
    fun _ hid => powerUpMapper_unsupported hid,
    fun _ => ⟨_, rfl⟩⟩

end Sys2Proof.Machine
end

section
/-!
PROOFS. The containers parse into what their bytes say (R101, R102, R121).
-/

namespace Sys2Proof.Machine
open Sys2Proof.Statements

/-! ## Bytes, words and images of a container -/

theorem toNat_byteAt (file : List Byte) (i : Nat) : (byteAt file i).toNat = at_ file i := rfl

theorem toNat_wordAt (file : List Byte) (i : Nat) : (wordAt file i).toNat = wordIn file i := by
  rw [wordAt, toNat_wordOf, toNat_byteAt, toNat_byteAt, wordIn, Nat.mul_comm, Nat.add_comm]

/-- An image cut from a container holds the container's bytes. -/
theorem imageAt_holdsBytes (file : List Byte) (i n : Nat) : holdsBytes (imageAt file i n) file i n := by
  refine ⟨rfl, fun k hk => ?_⟩
  rw [imageAt, Memory.read_ofBytes _ hk, unlistedByte, List.getD_eq_getElem?_getD, List.getD_eq_getElem?_getD,
    List.getElem?_drop]
  rfl

/-! ## The header of an iNES file -/

/-- The size formula of R102, with the exponent form when the high digit is $F. -/
theorem imageSize_eq (lo : Byte) (hi : BitVec 4) (unit : Nat) :
    imageSize lo hi unit = Statements.sizeOf lo.toNat hi.toNat unit := by
  have hdigit : hi = 0xF ↔ hi.toNat = 15 := BitVec.toNat_inj.symm
  rw [imageSize, Statements.sizeOf]
  by_cases h : hi = 0xF
  · have hlow := Nat.mod_eq_of_lt (Nat.div_lt_of_lt_mul lo.isLt : lo.toNat / 2 ^ 2 < 2 ^ 6)
    rw [if_neg (not_not_intro h), if_pos (hdigit.1 h), toNat_field, toNat_field, hlow, pow_zero, Nat.div_one]
    rfl
  · rw [if_pos h, if_neg (mt hdigit.2 h)]

theorem prgSizeOf_eq (file : List Byte) : prgSizeOf file = prgBytes file := by
  rw [prgSizeOf, imageSize_eq, toNat_field, pow_zero, Nat.div_one]
  rfl

/-- The high digit of a byte. -/
theorem toNat_highDigit (b : Byte) : (b.extractLsb' 4 4).toNat = b.toNat / 16 := by
  rw [toNat_field]
  exact Nat.mod_eq_of_lt (Nat.div_lt_of_lt_mul b.isLt)

theorem chrSizeOf_eq (file : List Byte) : chrSizeOf file = chrBytes file := by
  rw [chrSizeOf, imageSize_eq, toNat_highDigit]
  rfl

theorem trainerSizeOf_eq (file : List Byte) : trainerSizeOf file = trainerBytes file := by
  simp only [trainerSizeOf, getLsbD_eq_digit, decide_eq_true_eq]
  rfl

theorem nesContainerParses : NesContainerParses := by
  intro file
  unfold parseNes
  rw [trainerSizeOf_eq, prgSizeOf_eq, chrSizeOf_eq]
  refine ⟨fun hmagic => if_pos hmagic, fun hmagic hshort => ?_, fun hmagic hlong => ?_⟩
  · exact (if_neg (not_not_intro hmagic)).trans (if_pos hshort)
  · exact ⟨_, (if_neg (not_not_intro hmagic)).trans (if_neg (Nat.not_lt.2 hlong)), imageAt_holdsBytes ..,
      imageAt_holdsBytes .., toNat_highDigit _, getLsbD_zero_eq _⟩

/-! ## The header of an NSF file -/

theorem nsfContainerParses : NsfContainerParses := by
  intro file
  unfold parseNsf
  refine ⟨fun hmagic => if_pos hmagic, fun hmagic hshort => ?_, fun hmagic hlong => ?_⟩
  · exact (if_neg (not_not_intro hmagic)).trans (if_pos hshort)
  · refine ⟨_, (if_neg (not_not_intro hmagic)).trans (if_neg (Nat.not_lt.2 hlong)), rfl, rfl,
      toNat_wordAt .., toNat_wordAt .., toNat_wordAt .., toNat_wordAt .., fun k hk => ?_, imageAt_holdsBytes ..⟩
    match k with
    | 0 | 1 | 2 | 3 | 4 | 5 | 6 | 7 => rfl

/-- Settles O51: each container field is the bytes its header names, and the two guards are the two faults. -/
theorem containersParse : Obligations.ContainersParse := ⟨nesContainerParses, nsfContainerParses⟩

end Sys2Proof.Machine
end

section
/-!
PROOFS. The encoding (R140 to R142, R156, R157): the row of an instruction's opcode builds it back from its operand bytes, and
what a row builds from any bytes is encoded as those bytes. Both directions of the round trip, and the unknown opcodes, follow.
-/

namespace Sys2Proof.Machine
open Sys2Proof.Statements

/-! ## Words, and the rows of the opcode map -/

theorem wordOf_eq_word (hi lo : Byte) : wordOf hi lo = word hi lo := by
  rw [word, ← toNat_wordOf, BitVec.ofNat_toNat, BitVec.setWidth_eq]

theorem wordOf_bytes (w : Addr) : wordOf (hiByte w) (loByte w) = w := (wordOf_eq_word _ _).trans (word_bytes w)

theorem hiByte_wordOf (hi lo : Byte) : hiByte (wordOf hi lo) = hi := by
  have := lo.isLt
  exact BitVec.eq_of_toNat_eq (by rw [toNat_hiByte, toNat_wordOf]; omega)

theorem loByte_wordOf (hi lo : Byte) : loByte (wordOf hi lo) = lo := by
  have := lo.isLt
  exact BitVec.eq_of_toNat_eq (by rw [toNat_loByte, toNat_wordOf]; omega)

/-- Whatever operand the row is given, what it builds is encoded as the opcode and then the operand's bytes (R142). -/
def EncodesAs (op : Byte) : Form → Prop
  | .op0 i => encode i = [op]
  | .op1 f => ∀ b, encode (f b) = [op, b]
  | .op2 f => ∀ w, encode (f w) = [op, loByte w, hiByte w]

/-- The row of each instruction's opcode builds it back from its operand bytes, and encodes as that opcode. -/
theorem rowOf_instr (i : Instr) (rest : List Byte) :
    ∃ f, formOf i.opcode = some f ∧ EncodesAs i.opcode f ∧ f.build (i.operandBytes ++ rest) = some (i, rest) := by
  cases i with
  | tax | tay | txa | tya | tsx | txs | inx | iny | dex | dey | aslAcc | lsrAcc | rolAcc | rorAcc | pha | pla | php | plp
  | clc | sec | cli | sei | clv | cld | sed | nop | rts | brk | rti => exact ⟨.op0 _, rfl, rfl, rfl⟩
  | ldaAbs w | ldaAbsX w | ldaAbsY w | ldxAbs w | ldxAbsY w | ldyAbs w | ldyAbsX w | staAbs w | staAbsX w | staAbsY w
  | stxAbs w | styAbs w | adcAbs w | adcAbsX w | adcAbsY w | sbcAbs w | sbcAbsX w | sbcAbsY w | andAbs w | andAbsX w
  | andAbsY w | oraAbs w | oraAbsX w | oraAbsY w | eorAbs w | eorAbsX w | eorAbsY w | cmpAbs w | cmpAbsX w | cmpAbsY w
  | cpxAbs w | cpyAbs w | bitAbs w | incAbs w | incAbsX w | decAbs w | decAbsX w | aslAbs w | aslAbsX w | lsrAbs w
  | lsrAbsX w | rolAbs w | rolAbsX w | rorAbs w | rorAbsX w | jmpAbs w | jmpInd w | jsr w =>
    dsimp only [Instr.opcode]
    exact ⟨.op2 _, rfl, fun _ => rfl, congrArg (fun v => some (_, rest)) (wordOf_bytes w)⟩
  | _ =>
    dsimp only [Instr.opcode]
    exact ⟨.op1 _, rfl, fun _ => rfl, rfl⟩

/-- The cells of the 105 unknown opcodes are empty (R157). -/
theorem formOf_unknown {op : Byte} (h : op ∈ unknownOpcodes) : formOf op = none :=
  have table : unknownOpcodes.all (fun op => (formOf op).isNone) = true := by decide
  Option.isNone_iff_eq_none.1 (List.all_eq_true.1 table op h)

/-- Every other opcode is an instruction's. -/
theorem exists_instr_of_known {op : Byte} (h : op ∉ unknownOpcodes) : ∃ i : Instr, i.opcode = op := by
  have table : ∀ op : Byte, (decodeTableWord 8 op.toNat).map Instr.opcode = some op ∨ op ∈ unknownOpcodes := by decide
  obtain ⟨i, -, hi⟩ := Option.map_eq_some_iff.1 ((table op).resolve_right h)
  exact ⟨i, hi⟩

/-- Every row encodes as its own opcode. -/
theorem encodesAs_of_formOf {op : Byte} {f : Form} (hf : formOf op = some f) : EncodesAs op f := by
  have hknown : op ∉ unknownOpcodes := fun h => by cases (formOf_unknown h).symm.trans hf
  obtain ⟨i, rfl⟩ := exists_instr_of_known hknown
  obtain ⟨g, hg, henc, -⟩ := rowOf_instr i []
  cases hg.symm.trans hf
  exact henc

/-- The bytes a row is built from are the encoding of what it builds. -/
theorem EncodesAs.bytes {op : Byte} {f : Form} (h : EncodesAs op f) {bytes rest : List Byte} {i : Instr}
    (hb : f.build bytes = some (i, rest)) : op :: bytes = encode i ++ rest := by
  match f, bytes, h, hb with
  | .op0 _, _, h, rfl => rw [h]; rfl
  | .op1 _, b :: _, h, rfl => rw [h b]; rfl
  | .op2 _, b1 :: b2 :: _, h, rfl => rw [h (wordOf b2 b1), loByte_wordOf, hiByte_wordOf]; rfl

/-! ## The round trip -/

/-- What the decoder does with a known opcode. -/
theorem decode_of_formOf {op : Byte} {f : Form} (hf : formOf op = some f) {bytes rest : List Byte} {i : Instr} :
    decode (op :: bytes) = .ok (i, rest) ↔ f.build bytes = some (i, rest) := by
  cases hb : f.build bytes <;> simp [decode, hf, hb]

theorem decode_encode (i : Instr) (rest : List Byte) : decode (encode i ++ rest) = .ok (i, rest) := by
  obtain ⟨f, hf, -, hb⟩ := rowOf_instr i rest
  exact (decode_of_formOf hf).2 hb

theorem encode_decode {bytes rest : List Byte} {i : Instr} (h : decode bytes = .ok (i, rest)) :
    bytes = encode i ++ rest := by
  cases bytes with
  | nil => cases h
  | cons op bytes =>
    cases hf : formOf op with
    | none => simp [decode, hf] at h
    | some f => exact (encodesAs_of_formOf hf).bytes ((decode_of_formOf hf).1 h)

theorem length_encode (i : Instr) : (encode i).length = i.length := by cases i <;> rfl

theorem wellFormed_instr (i : Instr) : i.wellFormed = true := by cases i <;> rfl

theorem operandCount_le (m : Mode) : m.operandCount ≤ 2 := by cases m <;> decide

/-- Settles O17: each opcode's row builds the instruction back from its operand bytes. -/
theorem decodeOfEncode : Obligations.DecodeOfEncode := fun i rest =>
  ⟨decode_encode i rest, length_encode i, Nat.le_add_right 1 _, Nat.add_le_add_left (operandCount_le i.mode) 1⟩

/-- Settles O18: what a row builds from bytes is encoded as the row's opcode and those bytes. -/
theorem encodeOfDecode : Obligations.EncodeOfDecode := fun _ _ i h => ⟨encode_decode h, wellFormed_instr i⟩

/-- Settles O19: the cells of the listed opcodes are empty, and every other cell's row builds from any two bytes. -/
theorem unknownOpcodesFault : Obligations.UnknownOpcodesFault := by
  refine ⟨rfl, fun op hop rest s => ⟨by simp only [decode, formOf_unknown hop], fun hpc => ?_⟩, fun op hop b1 b2 => ?_⟩
  · simp only [fetchInstr, fetchByte_of_some hpc, andThen_next, formOf_unknown hop]
  · obtain ⟨j, rfl⟩ := exists_instr_of_known hop
    obtain ⟨f, hf, -⟩ := rowOf_instr j []
    have hbuild : ∃ r, f.build [b1, b2] = some r := by cases f <;> exact ⟨_, rfl⟩
    obtain ⟨⟨i, rest⟩, hb⟩ := hbuild
    have hdecode := (decode_of_formOf hf).2 hb
    exact ⟨i, rest, hdecode, (List.cons.inj (encode_decode hdecode)).1.symm⟩

/-- Settles O20: the words are closed, so the decoder computes their instructions. -/
theorem wordsDecodeAsTheTableSays : Obligations.WordsDecodeAsTheTableSays :=
  ⟨rfl, rfl, rfl, rfl, rfl, rfl, rfl, rfl, rfl, rfl, rfl, rfl⟩

end Sys2Proof.Machine
end

section
/-!
PROOFS. The step of a decoded instruction (R141, R455): the bytes that stand at PC are fetched and decoded, and the step is that
instruction, its cycles and the devices' advance.
-/

namespace Sys2Proof.Machine
open Sys2Proof.Statements

/-- A row of fetches gives the bytes that stand there. -/
theorem fetchBytes_of_stands {s : State} {bs : List Byte} {a : Addr}
    (h : ∀ k, k < bs.length → codeByte s (a + BitVec.ofNat 16 k) = bs[k]?) : fetchBytes s bs.length a = .next bs := by
  induction bs generalizing a with
  | nil => rfl
  | cons b bs ih =>
    have hb : codeByte s a = some b := by simpa using h 0 (Nat.zero_lt_succ _)
    have hrest := ih (a := a + 1) fun k hk => by
      rw [add_one_add_ofNat, h (k + 1) (Nat.succ_lt_succ hk), List.getElem?_cons_succ]
    rw [List.length_cons, fetchBytes, fetchByte_of_some hb, andThen_next, hrest, andThen_next]

/-- The fetch gives the instruction whose encoding stands at PC. -/
theorem fetchInstr_of_stands {s : State} {i : Instr} (h : standsAtPc i (encode i).length s) :
    fetchInstr s = .next i := by
  obtain ⟨f, hf, hcount⟩ := formOf_opcode i
  have hopcode : codeByte s s.pc = some i.opcode := by simpa [encode] using h 0 (Nat.zero_lt_succ _)
  have hoperands : fetchBytes s f.operandCount (s.pc + 1) = .next i.operandBytes := by
    rw [hcount]
    refine fetchBytes_of_stands fun k hk => ?_
    rw [add_one_add_ofNat, h (k + 1) (Nat.succ_lt_succ hk), encode, List.getElem?_cons_succ]
  have hdecode : decode (i.opcode :: i.operandBytes) = .ok (i, []) := by simpa [encode] using decode_encode i []
  simp only [fetchInstr, fetchByte_of_some hopcode, andThen_next, hf, hoperands, hdecode]

/-- The devices' advance is the statements' one. -/
theorem advanceDevices_eq_movedDevices (c : Nat) (s : State) : advanceDevices c s = movedDevices c s := by
  cases hn : s.isNsf with
  | true => simp [advanceDevices, movedDevices, ppuAdvance, hn]
  | false => simp [advanceDevices, movedDevices, ppuAdvance, hn]

/-- A system step runs the instruction that is fetched. -/
theorem systemStep_of_fetch {s : State} {i : Instr} (hn : s.nmiPending = false) (hf : fetchInstr s = .next i) :
    systemStep s = andThen (exec i s) fun t => .next (afterDevices (cycleCost i s) t) := by
  simp only [systemStep, hn, Bool.false_eq_true, if_false, hf, andThen_next, instructionStep,
    advanceDevices_eq_movedDevices]
  rfl

theorem step_of_noMoves {s : State} (hr : s.run = .running) (hq : s.hostQueue = []) : step s = systemStep s := by
  simp only [step, runStep, hr, boundary, hq]

theorem step_of_grant {s : State} {v : Byte} {rest : List HostMove} (hr : s.run = .running)
    (hq : s.hostQueue = .grant v :: rest) : step s = systemStep { s with buttons := v, hostQueue := rest } := by
  simp only [step, runStep, hr, boundary, hq, hostMove]

/-- Settles O22: the fetched instruction is the encoded one, and neither its fetch nor its cost looks at the host's side. -/
theorem stepRunsTheDecodedInstruction : Obligations.StepRunsTheDecodedInstruction := by
  intro s i hr hn hstands
  have hfetch := fetchInstr_of_stands hstands
  refine ⟨hfetch, fun hq => ?_, fun v rest hq => ?_⟩
  · rw [step_of_noMoves hr hq, systemStep_of_fetch hn hfetch]
  · rw [step_of_grant hr hq]
    exact systemStep_of_fetch hn (fetchInstr_of_stands hstands)

end Sys2Proof.Machine
end

section
/-!
PROOFS. Effective addresses as numbers (R146 to R153), and the jumps and subroutines (R299 to R301).
-/

namespace Sys2Proof.Machine
open Sys2Proof.Statements

/-! ## Effective addresses -/

theorem toNat_zext16 (b : Byte) : (zext16 b).toNat = b.toNat := BitVec.toNat_setWidth_of_le (by decide)

theorem toNat_read16Zp (s : State) (z : Byte) : (read16Zp s z).toNat = zeroPageWord s z.toNat := by
  have hz : z.toNat % 256 = z.toNat := Nat.mod_eq_of_lt z.isLt
  have hnext : (z + 1).toNat = (z.toNat + 1) % 256 := BitVec.toNat_add z 1
  rw [read16Zp, toNat_wordOf, zeroPageByte, zeroPageByte, zeroPageWord, hz, hnext, Nat.mul_comm, Nat.add_comm]

/-- The word at a zero-page address depends on the address modulo 256. -/
theorem zeroPageWord_mod (s : State) (z : Nat) : zeroPageWord s (z % 256) = zeroPageWord s z := by
  rw [zeroPageWord, zeroPageWord, Nat.mod_mod, Nat.mod_add_mod]

/-- Settles O23: each address is a sum of bit vectors, so a sum of numbers modulo its width. -/
theorem effectiveAddresses : Obligations.EffectiveAddresses := by
  intro b w s
  have hb : (eaZp b).toNat = b.toNat := toNat_zext16 b
  have hlt := b.isLt
  refine ⟨hb, ?_, ?_, rfl, ?_, ?_, ?_, ?_, ?_⟩
  · rw [eaZpX, toNat_zext16, BitVec.toNat_add]
  · rw [eaZpY, toNat_zext16, BitVec.toNat_add]
  · rw [eaAbsX, BitVec.toNat_add, toNat_zext16]
  · rw [eaAbsY, BitVec.toNat_add, toNat_zext16]
  · rw [eaIndX, toNat_read16Zp, BitVec.toNat_add, zeroPageWord_mod]
  · rw [eaIndY, BitVec.toNat_add, toNat_zext16, baseIndY, toNat_read16Zp]
  · rw [memRead_ram (by omega), hb, Nat.mod_eq_of_lt (by omega)]

/-! ## Jumps and subroutines -/

/-- A read leaves every address as readable as it was. -/
theorem readable_after_read {a c : Addr} {s t : State} {b : Byte} (h : memRead a s = .next (b, t)) :
    readable t c = readable s c := by
  rcases memRead_effect h with rfl | ⟨-, rfl⟩ | ⟨-, rfl⟩ | ⟨-, rfl⟩ <;> rfl

/-- JMP indirect is two pointer reads, and stops as they stop. -/
theorem exec_jmpInd (w : Addr) (s : State) :
    exec (.jmpInd w) s = andThen (memRead w s) fun lo => andThen (memRead (highPointer s w) lo.2) fun hi =>
      .next { hi.2 with pc := word hi.1 lo.1 } := by
  change execJmpInd w s = _
  rw [execJmpInd, read16JmpInd, jmpIndHigh_eq_highPointer]
  cases memRead w s with
  | next lo =>
    simp only [andThen_next]
    cases memRead (highPointer s w) lo.2 <;> simp only [andThen_next, andThen_fault, andThen_refused, wordOf_eq_word]
    rfl
  | fault | refused => rfl

theorem jmpTakesItsTarget : JmpTakesItsTarget := by
  refine ⟨fun w s => ⟨rfl, rfl⟩, fun w s => ?_⟩
  rw [exec_jmpInd]
  refine ⟨rfl, fun hlo hhi => ?_, fun e h => by rw [h, andThen_fault], fun r h => by rw [h, andThen_refused],
    fun lo s1 e h h' => by simp only [h, andThen_next, h', andThen_fault],
    fun lo s1 r h h' => by simp only [h, andThen_next, h', andThen_refused]⟩
  obtain ⟨lo, s1, h1⟩ := memRead_of_readable hlo
  obtain ⟨hi, s2, h2⟩ := memRead_of_readable ((readable_after_read h1).trans hhi)
  exact ⟨lo, hi, s1, s2, h1, h2, by simp only [h1, h2, andThen_next]⟩

theorem subroutinesCallAndReturn : SubroutinesCallAndReturn := by
  refine ⟨fun w s => ⟨rfl, ?_⟩, fun s => ⟨rfl, ?_⟩⟩
  · have hsp : s.sp - 1 - 1 = s.sp - 2 := sub_one_sub_ofNat s.sp 1
    rw [← hsp]
    rfl
  · have hsp : s.sp + 1 + 1 = s.sp + 2 := add_one_add_ofNat s.sp 1
    rw [← hsp, ← wordOf_eq_word]
    rfl

/-- Settles O13: JMP indirect is its two pointer reads; JSR and RTS are two pushes and two pulls. -/
theorem jumpsAndSubroutines : Obligations.JumpsAndSubroutines := ⟨jmpTakesItsTarget, subroutinesCallAndReturn⟩

end Sys2Proof.Machine
end

section
/-!
PROOFS. The shapes of instruction against the forms the statements speak of: `SetNZ` as a bit mask (R10, R25), and one lemma per
shape that makes a form's statement of its equation and of what its operation does to the registers.
-/

namespace Sys2Proof.Machine
open Sys2Proof.Statements

/-! ## Flags as bit masks -/

/-- A bit of P after a masked write: from the new bits where the mask holds it, from P elsewhere. -/
theorem getLsbD_replaceFlags (mask bits p : Byte) {i : Nat} (hi : i < 8) :
    (replaceFlags mask bits p).getLsbD i = if mask.getLsbD i then bits.getLsbD i else p.getLsbD i := by
  rw [replaceFlags, BitVec.getLsbD_or, BitVec.getLsbD_and, BitVec.getLsbD_and, BitVec.getLsbD_not]
  cases mask.getLsbD i <;> simp [hi]

theorem nzBits_negative (v : Byte) : (nzBits v).getLsbD 7 = v.getLsbD 7 := by
  rw [nzBits, BitVec.getLsbD_or, BitVec.getLsbD_and]
  split <;> simp

theorem nzBits_zero (v : Byte) : (nzBits v).getLsbD 1 = (v == 0) := by
  rw [nzBits, BitVec.getLsbD_or, BitVec.getLsbD_and]
  split <;> simp_all

/-- `SetNZ` bit by bit is the masked write of N and Z (R10). -/
theorem setNZ_eq_nzFlags (v p : Byte) : setNZ v p = nzFlags v p := by
  apply BitVec.eq_of_getLsbD_eq
  intro i hi
  rw [setNZ, setN, getLsbD_setBit _ _ _ _ (by decide), setZ, getLsbD_setBit _ _ _ _ (by decide), nzFlags,
    getLsbD_replaceFlags _ _ _ hi]
  by_cases h7 : i = 7
  · subst h7; exact (nzBits_negative v).symm
  by_cases h1 : i = 1
  · subst h1; exact (nzBits_zero v).symm
  have outside : (0x82 : Byte).getLsbD i = false := by
    revert i
    decide
  rw [if_neg h7, if_neg h1, outside, if_neg Bool.false_ne_true]

/-! ## Operations on the registers -/

/-- The operation g, on a state s1 that holds the registers of s, and the advance of PC come to `result`, which is given s for
what it reads and s1 for what it keeps. -/
def ActsAs (g : Byte → State → State) (result : Byte → State → State → State) : Prop :=
  ∀ (m : Byte) (s s1 : State) (n : Nat), SameRegisters s s1 → s1.pc = s.pc →
    (g m s1).advance n = { result m s s1 with pc := s.pc + BitVec.ofNat 16 n }

variable {g : Byte → State → State} {result : Byte → State → State → State}

/-- On the state the instruction starts from, the operation reads and keeps the same one. -/
theorem ActsAs.same (hg : ActsAs g result) (m : Byte) (s : State) (n : Nat) :
    (g m s).advance n = { result m s s with pc := s.pc + BitVec.ofNat 16 n } :=
  hg m s s n ⟨rfl, rfl, rfl, rfl, rfl⟩ rfl

/-! ## The shapes -/

/-- The instruction of the form reads its operand, does g with it, and has the form's opcode and length. -/
def IsReadOf (g : Byte → State → State) (f : MemForm) (s : State) : Prop :=
  HasOpcode f ∧ exec f.instr s = withRead f.ea f.len g s

/-- The instruction of the form stores v, and has the form's opcode and length. -/
def IsStoreOf (v : Byte) (f : MemForm) (s : State) : Prop :=
  HasOpcode f ∧ exec f.instr s = withStore f.ea f.len v s

theorem immediate_of_withValue {op : Byte} {i : Byte → Instr} (hg : ActsAs g result) (henc : ∀ b, encode (i b) = [op, b])
    (hexec : ∀ b s, exec (i b) s = withValue b 2 g s) : Immediate op i result := fun b s =>
  ⟨henc b, by rw [hexec, withValue, hg.same]; rfl⟩

theorem oneByte_of_withValue {op : Byte} {i : Instr} (v : State → Byte) (hg : ActsAs g result) (henc : encode i = [op])
    (hexec : ∀ s, exec i s = withValue (v s) 1 g s) : OneByte op i fun s => result (v s) s s := fun s =>
  ⟨henc, by rw [hexec, withValue, hg.same]; rfl⟩

/-- A form that reads completes, faults or is refused as its read does. -/
theorem IsReadOf.readsAs {f : MemForm} {s : State} (h : IsReadOf g f s) (hg : ActsAs g result) : ReadsAs f s result := by
  obtain ⟨hop, hexec⟩ := h
  rw [ReadsAs, hexec]
  refine ⟨hop, fun hr => ?_, fun _ => withRead_fault, fun _ => withRead_refused⟩
  obtain ⟨m, s1, hm⟩ := memRead_of_readable hr
  obtain ⟨ha, hx, hy, hsp, hpc, hp, -⟩ := memRead_keeps hm
  exact ⟨m, s1, hm, by rw [withRead_next hm, hg m s s1 f.len ⟨ha, hx, hy, hsp, hp⟩ hpc, pcAfter]⟩

theorem reads_of_isReadOf {forms : Byte → Addr → State → List MemForm} (hg : ActsAs g result)
    (hf : ∀ b w s, ∀ f ∈ forms b w s, IsReadOf g f s) : Reads forms result := fun b w s f h =>
  (hf b w s f h).readsAs hg

/-- A form that stores completes, faults or is refused as its write does. -/
theorem IsStoreOf.storesAs {f : MemForm} {s : State} {v : Byte} (h : IsStoreOf v f s) : StoresAs f s v := by
  obtain ⟨hop, hexec⟩ := h
  rw [StoresAs, hexec]
  refine ⟨hop, fun hw => ?_, fun _ => withStore_fault, fun _ => withStore_refused⟩
  obtain ⟨s1, hs⟩ := memWrite_of_writable hw
  obtain ⟨-, -, -, -, hpc, -⟩ := memWrite_keeps hs
  exact ⟨s1, hs, by rw [withStore_next hs, State.advance, hpc]; rfl⟩

theorem stores_of_isStoreOf {forms : Byte → Addr → State → List MemForm} {register : State → Byte}
    (hf : ∀ b w s, ∀ f ∈ forms b w s, IsStoreOf (register s) f s) : Stores forms register := fun b w s f h =>
  (hf b w s f h).storesAs

end Sys2Proof.Machine
end

section
/-!
PROOFS. Loads, stores and transfers (R170 to R181): each form is its shape, and the lemmas of the shapes do the rest.
-/

namespace Sys2Proof.Machine
open Sys2Proof.Statements

/-! ## What a load does to the registers -/

theorem loadA_actsAs : ActsAs loadA fun m s s1 => { s1 with a := m, p := nzFlags m s.p } := by
  intro m s s1 n ⟨_, _, _, _, hp⟩ hpc
  rw [loadA, setNZ_eq_nzFlags, hp, ← hpc]
  rfl

theorem loadX_actsAs : ActsAs loadX fun m s s1 => { s1 with x := m, p := nzFlags m s.p } := by
  intro m s s1 n ⟨_, _, _, _, hp⟩ hpc
  rw [loadX, setNZ_eq_nzFlags, hp, ← hpc]
  rfl

theorem loadY_actsAs : ActsAs loadY fun m s s1 => { s1 with y := m, p := nzFlags m s.p } := by
  intro m s s1 n ⟨_, _, _, _, hp⟩ hpc
  rw [loadY, setNZ_eq_nzFlags, hp, ← hpc]
  rfl

/-! ## The forms of the loads -/

theorem ldaForms_read (b : Byte) (w : Addr) (s : State) : ∀ f ∈ ldaForms b w s, IsReadOf loadA f s := by
  simp only [ldaForms, List.forall_mem_cons]
  exact ⟨⟨⟨rfl, rfl⟩, rfl⟩, ⟨⟨rfl, rfl⟩, rfl⟩, ⟨⟨rfl, rfl⟩, rfl⟩, ⟨⟨rfl, rfl⟩, rfl⟩, ⟨⟨rfl, rfl⟩, rfl⟩, ⟨⟨rfl, rfl⟩, rfl⟩,
    ⟨⟨rfl, rfl⟩, rfl⟩, nofun⟩

theorem ldxForms_read (b : Byte) (w : Addr) (s : State) : ∀ f ∈ ldxForms b w s, IsReadOf loadX f s := by
  simp only [ldxForms, List.forall_mem_cons]
  exact ⟨⟨⟨rfl, rfl⟩, rfl⟩, ⟨⟨rfl, rfl⟩, rfl⟩, ⟨⟨rfl, rfl⟩, rfl⟩, ⟨⟨rfl, rfl⟩, rfl⟩, nofun⟩

theorem ldyForms_read (b : Byte) (w : Addr) (s : State) : ∀ f ∈ ldyForms b w s, IsReadOf loadY f s := by
  simp only [ldyForms, List.forall_mem_cons]
  exact ⟨⟨⟨rfl, rfl⟩, rfl⟩, ⟨⟨rfl, rfl⟩, rfl⟩, ⟨⟨rfl, rfl⟩, rfl⟩, ⟨⟨rfl, rfl⟩, rfl⟩, nofun⟩

/-- Settles O1: every form is a read of its address, or an operand, and then a load of the register. -/
theorem loadsFillTheirRegister : Obligations.LoadsFillTheirRegister :=
  ⟨⟨immediate_of_withValue loadA_actsAs (fun _ => rfl) fun _ _ => rfl,
      reads_of_isReadOf loadA_actsAs ldaForms_read⟩,
    ⟨immediate_of_withValue loadX_actsAs (fun _ => rfl) fun _ _ => rfl,
      reads_of_isReadOf loadX_actsAs ldxForms_read⟩,
    ⟨immediate_of_withValue loadY_actsAs (fun _ => rfl) fun _ _ => rfl,
      reads_of_isReadOf loadY_actsAs ldyForms_read⟩⟩

/-! ## The forms of the stores -/

theorem staForms_store (b : Byte) (w : Addr) (s : State) : ∀ f ∈ staForms b w s, IsStoreOf s.a f s := by
  simp only [staForms, List.forall_mem_cons]
  exact ⟨⟨⟨rfl, rfl⟩, rfl⟩, ⟨⟨rfl, rfl⟩, rfl⟩, ⟨⟨rfl, rfl⟩, rfl⟩, ⟨⟨rfl, rfl⟩, rfl⟩, ⟨⟨rfl, rfl⟩, rfl⟩, ⟨⟨rfl, rfl⟩, rfl⟩,
    ⟨⟨rfl, rfl⟩, rfl⟩, nofun⟩

theorem stxForms_store (b : Byte) (w : Addr) (s : State) : ∀ f ∈ stxForms b w s, IsStoreOf s.x f s := by
  simp only [stxForms, List.forall_mem_cons]
  exact ⟨⟨⟨rfl, rfl⟩, rfl⟩, ⟨⟨rfl, rfl⟩, rfl⟩, ⟨⟨rfl, rfl⟩, rfl⟩, nofun⟩

theorem styForms_store (b : Byte) (w : Addr) (s : State) : ∀ f ∈ styForms b w s, IsStoreOf s.y f s := by
  simp only [styForms, List.forall_mem_cons]
  exact ⟨⟨⟨rfl, rfl⟩, rfl⟩, ⟨⟨rfl, rfl⟩, rfl⟩, ⟨⟨rfl, rfl⟩, rfl⟩, nofun⟩

/-- Settles O2: every form is a store of the register at its address. -/
theorem storesWriteTheirRegister : Obligations.StoresWriteTheirRegister :=
  ⟨stores_of_isStoreOf staForms_store, stores_of_isStoreOf stxForms_store, stores_of_isStoreOf styForms_store⟩

/-! ## The transfers -/

/-- Settles O3: five transfers are a load of the source register; TXS writes S alone. -/
theorem transfersCopyRegisters : Obligations.TransfersCopyRegisters :=
  ⟨oneByte_of_withValue (·.a) loadX_actsAs rfl fun _ => rfl, oneByte_of_withValue (·.a) loadY_actsAs rfl fun _ => rfl,
    oneByte_of_withValue (·.x) loadA_actsAs rfl fun _ => rfl, oneByte_of_withValue (·.y) loadA_actsAs rfl fun _ => rfl,
    oneByte_of_withValue (·.sp) loadX_actsAs rfl fun _ => rfl, fun _ => ⟨rfl, rfl⟩⟩

end Sys2Proof.Machine
end

section
/-!
PROOFS. The flag bytes of arithmetic and compares as masked writes (R25, R201, R207, R211): writing one flag, writing flags
one after the other, and the sums of R201 as the integers the statements speak of.
-/

namespace Sys2Proof.Machine
open Sys2Proof.Statements

/-! ## Writing flags one after the other -/

/-- Two masked writes are one, where neither writes a bit of the other. -/
theorem replaceFlags_replaceFlags {m m' b b' : Byte} (hb : b &&& m' = 0) (hb' : b' &&& m = 0) (p : Byte) :
    replaceFlags m b (replaceFlags m' b' p) = replaceFlags (m ||| m') (b ||| b') p := by
  apply BitVec.eq_of_getLsbD_eq
  intro i hi
  have h := congrArg (BitVec.getLsbD · i) hb
  have h' := congrArg (BitVec.getLsbD · i) hb'
  simp only [BitVec.getLsbD_and, BitVec.ofNat_eq_ofNat, BitVec.getLsbD_zero] at h h'
  rw [getLsbD_replaceFlags _ _ _ hi, getLsbD_replaceFlags _ _ _ hi, getLsbD_replaceFlags _ _ _ hi, BitVec.getLsbD_or,
    BitVec.getLsbD_or]
  cases hm : m.getLsbD i <;> cases hm' : m'.getLsbD i <;> simp_all

/-- Writing one bit is a masked write. -/
theorem setBit_eq_replaceFlags (p : Byte) (n : Nat) (b : Bool) :
    setBit p n b = replaceFlags (1#8 <<< n) (if b then 1#8 <<< n else 0) p := by
  rw [setBit]
  generalize 1#8 <<< n = m
  apply BitVec.eq_of_getLsbD_eq
  intro i hi
  rw [getLsbD_replaceFlags _ _ _ hi]
  cases b
  · rw [if_neg Bool.false_ne_true, if_neg Bool.false_ne_true, BitVec.getLsbD_and, BitVec.getLsbD_not]
    cases m.getLsbD i <;> simp [hi]
  · rw [if_pos rfl, if_pos rfl, BitVec.getLsbD_or]
    cases m.getLsbD i <;> simp

theorem setC_eq_replaceFlags (c : Bool) (p : Byte) : setC c p = replaceFlags 0x01 (cBit c) p := setBit_eq_replaceFlags p 0 c

theorem setV_eq_replaceFlags (o : Bool) (p : Byte) : setV o p = replaceFlags 0x40 (vBit o) p := setBit_eq_replaceFlags p 6 o

/-- `SetNZ` after a masked write that leaves N and Z. -/
theorem setNZ_replaceFlags {m b : Byte} (hm : m &&& 0x82 = 0) (hb : b &&& 0x82 = 0) (v p : Byte) :
    setNZ v (replaceFlags m b p) = replaceFlags (0x82 ||| m) (nzBits v ||| b) p := by
  have hv : nzBits v &&& 0x82 = nzBits v := by
    rw [nzBits, BitVec.and_or_distrib_right, BitVec.and_assoc]
    split <;> rfl
  have hnz : nzBits v &&& m = 0 := by
    rw [← hv, BitVec.and_assoc, BitVec.and_comm _ m, hm]
    exact BitVec.and_zero
  rw [setNZ_eq_nzFlags, nzFlags, replaceFlags_replaceFlags hnz hb]

theorem setNZ_setC (v : Byte) (c : Bool) (p : Byte) : setNZ v (setC c p) = nzcFlags v c p := by
  rw [setC_eq_replaceFlags, setNZ_replaceFlags rfl (by cases c <;> rfl), nzcFlags]
  rfl

theorem setNZ_setV_setC (v : Byte) (c o : Bool) (p : Byte) : setNZ v (setV o (setC c p)) = nvzcFlags v c o p := by
  rw [setC_eq_replaceFlags, setV_eq_replaceFlags, replaceFlags_replaceFlags (by cases o <;> rfl) (by cases c <;> rfl),
    setNZ_replaceFlags rfl (by cases o <;> cases c <;> rfl), nvzcFlags, BitVec.or_assoc, BitVec.or_comm (cBit c)]
  rfl

/-! ## `AddWithCarry` and `Compare` (R201, R207) -/

theorem toNat_flagC (p : Byte) : (flagC p).toNat = carryIn p := by
  rw [flagC, BitVec.getLsbD, Nat.toNat_testBit, pow_zero, Nat.div_one, carryIn]

theorem carryIn_lt (p : Byte) : carryIn p < 2 := Nat.mod_lt _ (by decide)

theorem sumResult_eq_adcResult (a m p : Byte) : sumResult a m (flagC p) = adcResult a m (carryIn p) := by
  rw [sumResult, unsignedSum, toNat_flagC, adcResult]

theorem sumFlags_eq_adcFlags (a m p : Byte) : sumFlags a m p = adcFlags a m p := by
  simp only [sumFlags, setNZ_setV_setC, sumResult_eq_adcResult, unsignedSum, signedSum, toNat_flagC]
  rfl

theorem compareFlags_eq_cmpFlags (r m p : Byte) : compareFlags r m p = cmpFlags r m p := setNZ_setC ..

/-! ## The sums as integers -/

theorem getLsbD_seven (v : Byte) : v.getLsbD 7 = decide (128 ≤ v.toNat) :=
  (BitVec.msb_eq_getLsbD_last v).symm.trans (BitVec.msb_eq_decide v)

/-- A signed byte (R9). -/
theorem toInt_byte (v : Byte) : v.toInt = if v.toNat < 128 then (v.toNat : Int) else v.toNat - 256 := by
  rw [BitVec.toInt_eq_toNat_cond]
  split <;> split <;> omega

theorem toNat_complement (m : Byte) : (~~~m).toNat = 255 - m.toNat := BitVec.toNat_not

theorem toInt_complement (m : Byte) : (~~~m).toInt = -1 - m.toInt := by
  rw [toInt_byte, toInt_byte, toNat_complement]
  split <;> split <;> omega

/-- V of R201 in its usual form, for each pair of signs: A and M have one sign, and the result the other. -/
theorem outOfRange_eq_xor (a m : Byte) {c : Nat} (hc : c < 2) :
    outOfRange (a.toInt + m.toInt + c) = ((a ^^^ adcResult a m c) &&& (m ^^^ adcResult a m c)).getLsbD 7 := by
  have hr : (adcResult a m c).toNat = (a.toNat + m.toNat + c) % 256 := BitVec.toNat_ofNat ..
  rw [BitVec.getLsbD_and, BitVec.getLsbD_xor, BitVec.getLsbD_xor, getLsbD_seven, getLsbD_seven, getLsbD_seven, hr,
    toInt_byte, toInt_byte, Bool.eq_iff_iff]
  simp only [outOfRange, Bool.or_eq_true, Bool.and_eq_true, decide_eq_true_eq, bne_iff_ne, ne_eq, decide_eq_decide]
  split <;> split <;> omega

/-- `A - M - (1 - C)` is the sum of R203's complement, modulo 256. -/
theorem sbcResult_eq_adcResult (a m : Byte) (c : Nat) : sbcResult a m c = adcResult a (~~~m) c := by
  apply BitVec.eq_of_toNat_eq
  rw [sbcResult, adcResult, BitVec.toNat_ofInt, BitVec.toNat_ofNat, toNat_complement]
  omega

/-- The flags of the difference are those of the sum with the complement (R203): the unsigned sums differ by 256, the signed
ones not at all. -/
theorem sbcFlags_eq_adcFlags (a m p : Byte) : sbcFlags a m p = adcFlags a (~~~m) p := by
  have hcarry : (0 ≤ (a.toNat : Int) - m.toNat - (1 - carryIn p)) ↔ 256 ≤ a.toNat + (~~~m).toNat + carryIn p := by
    rw [toNat_complement]
    omega
  have hsigned : a.toInt - m.toInt - (1 - carryIn p) = a.toInt + (~~~m).toInt + carryIn p := by
    rw [toInt_complement]
    omega
  rw [sbcFlags, adcFlags, sbcResult_eq_adcResult, hsigned, decide_eq_decide.2 hcarry]

/-! ## BIT (R211) -/

/-- N and V are copied from M, Z is written beside them. -/
theorem bitFlags_eq_replaceFlags (a m p : Byte) :
    bitFlags a m p = replaceFlags 0xC2 ((m &&& 0xC0) ||| (if a &&& m = 0 then 0x02 else 0x00)) p := by
  apply BitVec.eq_of_getLsbD_eq
  intro i hi
  rw [bitFlags, setV, getLsbD_setBit _ _ _ _ (by decide), setN, getLsbD_setBit _ _ _ _ (by decide), setZ,
    getLsbD_setBit _ _ _ _ (by decide), getLsbD_replaceFlags _ _ _ hi, BitVec.getLsbD_or, BitVec.getLsbD_and]
  by_cases h6 : i = 6
  · subst h6; by_cases hz : a &&& m = 0#8 <;> simp [hz]
  by_cases h7 : i = 7
  · subst h7; by_cases hz : a &&& m = 0#8 <;> simp [hz]
  by_cases h1 : i = 1
  · subst h1; by_cases hz : a &&& m = 0#8 <;> simp [hz]
  have outside : (0xC2 : Byte).getLsbD i = false := by
    revert i
    decide
  rw [if_neg h6, if_neg h7, if_neg h1, outside, if_neg Bool.false_ne_true]

end Sys2Proof.Machine
end

section
/-!
PROOFS. The read-modify-write shape (R70): which writes are refused, what a read leaves of the write after it, and the lemma
that makes a form's statement of its equation.
-/

namespace Sys2Proof.Machine
open Sys2Proof.Statements

/-! ## No mapper refuses a write -/

theorem faultOr_ne_refused (bad : Option Nat) (w : Windows) (r : Refusal) : faultOr bad w ≠ .refused r := by
  cases bad <;> exact nofun

/-- A composition refuses where its first part does, or where the second does after it. -/
theorem andThen_ne_refused {α β : Type} {o : Out α} {f : α → Out β} {r : Refusal} (ho : o ≠ .refused r)
    (hf : ∀ v, f v ≠ .refused r) : andThen o f ≠ .refused r := by
  cases o with
  | next v => exact hf v
  | fault e => exact nofun
  | refused e => exact fun h => ho (by cases h; rfl)

theorem mmc1Write_ne_refused (f : NesFile) (a : Addr) (v : Byte) (m : Mmc1) (w : Windows) (r : Refusal) :
    mmc1Write f a v m w ≠ .refused r := by
  rw [mmc1Write]
  split
  · exact nofun
  · dsimp only
    split
    · rw [mmc1Remap_eq]
      exact andThen_ne_refused (faultOr_ne_refused _ _ r) fun _ => nofun
    · exact nofun

theorem mapperWrite_ne_refused (f : NesFile) (a : Addr) (v : Byte) (m : MapperState) (w : Windows) (r : Refusal) :
    mapperWrite f a v m w ≠ .refused r := by
  cases m with
  | nrom | nsf => exact nofun
  | mmc1 m => exact andThen_ne_refused (mmc1Write_ne_refused f a v m w r) fun _ => nofun
  | uxrom b =>
    rw [mapperWrite, mapPrgLo_eq_faultOr]
    exact andThen_ne_refused (faultOr_ne_refused _ _ r) fun _ => nofun

/-! ## A write after a read -/

/-- A write is refused only where a read does not complete either: at OAM DMA and at the PPU's registers 3 to 7 (R354). -/
theorem not_readable_of_refusedWrite {a : Addr} {v : Byte} {s : State} {r : Refusal} (h : memWrite a v s = .refused r) :
    readable s a = false := by
  unfold memWrite at h
  split at h <;> rename_i hr
  case h_2 k =>
    rw [ppuWrite] at h
    by_cases hk : k = 2
    · subst hk
      cases h
    · simp only [readable, hr, beq_eq_false_iff_ne.2 hk]
  case h_4 => simp only [readable, hr]
  case h_11 =>
    rw [cartWrite] at h
    split at h
    · exact absurd h (andThen_ne_refused (mapperWrite_ne_refused _ _ _ _ _ r) fun _ => nofun)
    · cases h
  all_goals cases h

theorem readable_of_memRead {a : Addr} {b : Byte} {s t : State} (h : memRead a s = .next (b, t)) :
    readable s a = true := by
  unfold memRead at h
  split at h <;> rename_i hr
  case h_2 k =>
    rw [ppuRead] at h
    by_cases hk : k = 2
    · simp only [readable, hr, beq_iff_eq, hk]
    · rw [if_neg hk] at h
      cases h
  case h_11 =>
    rw [cartRead] at h
    cases hb : cartByte s a with
    | some v => simp only [readable, hr, hb, Option.isSome_some]
    | none =>
      rw [hb] at h
      cases h
  case h_3 | h_4 | h_9 | h_12 => cases h
  all_goals simp only [readable, hr]

/-- A read leaves every address as writable as it was. -/
theorem writable_after_read {a c : Addr} {v b : Byte} {s t : State} (h : memRead a s = .next (b, t)) :
    writable t c v = writable s c v := by
  rcases memRead_effect h with rfl | ⟨-, rfl⟩ | ⟨-, rfl⟩ | ⟨-, rfl⟩ <;> rfl

theorem memWrite_ne_refused_after_read {a : Addr} {v b : Byte} {s t : State} (h : memRead a s = .next (b, t)) (r : Refusal) :
    memWrite a v t ≠ .refused r := fun hw =>
  nomatch (not_readable_of_refusedWrite hw).symm.trans ((readable_after_read h).trans (readable_of_memRead h))

/-! ## The shape -/

section
variable {ea : Addr} {n : Nat} {result : Byte → Byte} {flags : Byte → Byte → Byte} {s : State}

theorem withModify_readFault {e : Fault} (h : memRead ea s = .fault e) : withModify ea n result flags s = .fault e := by
  rw [withModify, h, andThen_fault]

theorem withModify_readRefused {r : Refusal} (h : memRead ea s = .refused r) :
    withModify ea n result flags s = .refused r := by
  rw [withModify, h, andThen_refused]

theorem withModify_writeFault {m : Byte} {s1 : State} {e : Fault} (hr : memRead ea s = .next (m, s1))
    (hw : memWrite ea (result m) s1 = .fault e) : withModify ea n result flags s = .fault e := by
  simp only [withModify, hr, andThen_next, hw, andThen_fault]

end

/-- The instruction of the form is a read-modify-write, and has the form's opcode and length. -/
def IsModifyOf (result : Byte → Byte) (flags : Byte → Byte → Byte) (f : MemForm) (s : State) : Prop :=
  HasOpcode f ∧ exec f.instr s = withModify f.ea f.len result flags s

/-- A form that reads, modifies and writes completes or stops as its two accesses do. -/
theorem IsModifyOf.modifiesAs {result : Byte → Byte} {flags : Byte → Byte → Byte} {f : MemForm} {s : State}
    (h : IsModifyOf result flags f s) : ModifiesAs f s result flags := by
  obtain ⟨hop, hexec⟩ := h
  rw [ModifiesAs, hexec]
  refine ⟨hop, fun hr => ?_, fun _ => withModify_readFault, fun _ => withModify_readRefused⟩
  obtain ⟨m, s1, hm⟩ := memRead_of_readable hr
  refine ⟨m, s1, hm, fun hw => ?_, fun _ => withModify_writeFault hm, memWrite_ne_refused_after_read hm⟩
  obtain ⟨s2, hs⟩ := memWrite_of_writable ((writable_after_read hm).trans hw)
  obtain ⟨-, -, -, -, hpc1, hp1, -⟩ := memRead_keeps hm
  obtain ⟨-, -, -, -, hpc2, hp2, -⟩ := memWrite_keeps hs
  refine ⟨s2, hs, ?_⟩
  rw [withModify_next hm hs, hp2, hp1, pcAfter, ← hpc1, ← hpc2]
  rfl

theorem modifies_of_isModifyOf {forms : Byte → Addr → State → List MemForm} {result : State → Byte → Byte}
    {flags : State → Byte → Byte → Byte}
    (hf : ∀ b w s, ∀ f ∈ forms b w s, IsModifyOf (result s) (flags s) f s) :
    Modifies forms result flags := fun b w s f h =>
  (hf b w s f h).modifiesAs

end Sys2Proof.Machine
end

section
/-!
PROOFS. Arithmetic, logic, compares, BIT and the increments (R200 to R217): what each operation does to the registers, and
each form as its shape.
-/

namespace Sys2Proof.Machine
open Sys2Proof.Statements

/-! ## What an operation does to the registers -/

theorem addA_actsAs :
    ActsAs addA fun m s s1 => { s1 with a := adcResult s.a m (carryIn s.p), p := adcFlags s.a m s.p } := by
  intro m s s1 n ⟨ha, _, _, _, hp⟩ hpc
  rw [addA, sumResult_eq_adcResult, sumFlags_eq_adcFlags, ha, hp, ← hpc]
  rfl

/-- SBC is ADC of the complement (R203). -/
theorem subA_actsAs :
    ActsAs subA fun m s s1 => { s1 with a := sbcResult s.a m (carryIn s.p), p := sbcFlags s.a m s.p } := by
  intro m s s1 n hreg hpc
  dsimp only
  rw [sbcResult_eq_adcResult, sbcFlags_eq_adcFlags]
  exact addA_actsAs (~~~m) s s1 n hreg hpc

/-- AND, ORA and EOR load A with the combination of A and M (R204 to R206). -/
theorem combineA_actsAs (op : Byte → Byte → Byte) :
    ActsAs (fun m s => loadA (op s.a m) s) fun m s s1 => { s1 with a := op s.a m, p := nzFlags (op s.a m) s.p } := by
  intro m s s1 n hreg hpc
  have ha : s1.a = s.a := hreg.1
  dsimp only
  rw [ha]
  exact loadA_actsAs (op s.a m) s s1 n hreg hpc

/-- An operation that writes P only, from M and from registers that a read keeps. -/
theorem setP_actsAs {q q' : Byte → State → Byte} (h : ∀ m s s1, SameRegisters s s1 → q m s1 = q' m s) :
    ActsAs (fun m s => s.setP (q m s)) fun m s s1 => { s1 with p := q' m s } := by
  intro m s s1 n hreg hpc
  dsimp only
  rw [h m s s1 hreg, ← hpc]
  rfl

theorem compareA_actsAs : ActsAs compareA fun m s s1 => { s1 with p := cmpFlags s.a m s.p } :=
  setP_actsAs fun m s s1 ⟨ha, _, _, _, hp⟩ => by rw [ha, hp, compareFlags_eq_cmpFlags]

theorem compareX_actsAs : ActsAs compareX fun m s s1 => { s1 with p := cmpFlags s.x m s.p } :=
  setP_actsAs fun m s s1 ⟨_, hx, _, _, hp⟩ => by rw [hx, hp, compareFlags_eq_cmpFlags]

theorem compareY_actsAs : ActsAs compareY fun m s s1 => { s1 with p := cmpFlags s.y m s.p } :=
  setP_actsAs fun m s s1 ⟨_, _, hy, _, hp⟩ => by rw [hy, hp, compareFlags_eq_cmpFlags]

theorem bitTest_actsAs : ActsAs bitTest fun m s s1 =>
    { s1 with p := replaceFlags 0xC2 ((m &&& 0xC0) ||| (if s.a &&& m = 0 then 0x02 else 0x00)) s.p } :=
  setP_actsAs fun m s s1 ⟨ha, _, _, _, hp⟩ => by rw [ha, hp, bitFlags_eq_replaceFlags]

/-- INC and DEC as one sum modulo 256 (R212, R213). -/
theorem withStep_eq_withModify (ea : Addr) (n : Nat) (delta : Byte) (s : State) :
    withStep ea n delta s = withModify ea n (fun m => BitVec.ofNat 8 (m.toNat + delta.toNat))
      (fun m p => nzFlags (BitVec.ofNat 8 (m.toNat + delta.toNat)) p) s := by
  simp only [withStep, setNZ_eq_nzFlags, BitVec.add_def]

/-! ## The forms -/

theorem adcForms_read (b : Byte) (w : Addr) (s : State) : ∀ f ∈ adcForms b w s, IsReadOf addA f s := by
  simp only [adcForms, List.forall_mem_cons]
  refine ⟨?_, ?_, ?_, ?_, ?_, ?_, ?_, nofun⟩ <;> exact ⟨⟨rfl, rfl⟩, rfl⟩

theorem sbcForms_read (b : Byte) (w : Addr) (s : State) : ∀ f ∈ sbcForms b w s, IsReadOf subA f s := by
  simp only [sbcForms, List.forall_mem_cons]
  refine ⟨?_, ?_, ?_, ?_, ?_, ?_, ?_, nofun⟩ <;> exact ⟨⟨rfl, rfl⟩, rfl⟩

theorem andForms_read (b : Byte) (w : Addr) (s : State) : ∀ f ∈ andForms b w s, IsReadOf andA f s := by
  simp only [andForms, List.forall_mem_cons]
  refine ⟨?_, ?_, ?_, ?_, ?_, ?_, ?_, nofun⟩ <;> exact ⟨⟨rfl, rfl⟩, rfl⟩

theorem oraForms_read (b : Byte) (w : Addr) (s : State) : ∀ f ∈ oraForms b w s, IsReadOf orA f s := by
  simp only [oraForms, List.forall_mem_cons]
  refine ⟨?_, ?_, ?_, ?_, ?_, ?_, ?_, nofun⟩ <;> exact ⟨⟨rfl, rfl⟩, rfl⟩

theorem eorForms_read (b : Byte) (w : Addr) (s : State) : ∀ f ∈ eorForms b w s, IsReadOf eorA f s := by
  simp only [eorForms, List.forall_mem_cons]
  refine ⟨?_, ?_, ?_, ?_, ?_, ?_, ?_, nofun⟩ <;> exact ⟨⟨rfl, rfl⟩, rfl⟩

theorem cmpForms_read (b : Byte) (w : Addr) (s : State) : ∀ f ∈ cmpForms b w s, IsReadOf compareA f s := by
  simp only [cmpForms, List.forall_mem_cons]
  refine ⟨?_, ?_, ?_, ?_, ?_, ?_, ?_, nofun⟩ <;> exact ⟨⟨rfl, rfl⟩, rfl⟩

theorem cpxForms_read (b : Byte) (w : Addr) (s : State) : ∀ f ∈ cpxForms b w s, IsReadOf compareX f s := by
  simp only [cpxForms, List.forall_mem_cons]
  refine ⟨?_, ?_, nofun⟩ <;> exact ⟨⟨rfl, rfl⟩, rfl⟩

theorem cpyForms_read (b : Byte) (w : Addr) (s : State) : ∀ f ∈ cpyForms b w s, IsReadOf compareY f s := by
  simp only [cpyForms, List.forall_mem_cons]
  refine ⟨?_, ?_, nofun⟩ <;> exact ⟨⟨rfl, rfl⟩, rfl⟩

theorem bitForms_read (b : Byte) (w : Addr) (s : State) : ∀ f ∈ bitForms b w s, IsReadOf bitTest f s := by
  simp only [bitForms, List.forall_mem_cons]
  refine ⟨?_, ?_, nofun⟩ <;> exact ⟨⟨rfl, rfl⟩, rfl⟩

theorem incForms_modify (b : Byte) (w : Addr) (s : State) : ∀ f ∈ incForms b w s,
    IsModifyOf (fun m => BitVec.ofNat 8 (m.toNat + 1)) (fun m p => nzFlags (BitVec.ofNat 8 (m.toNat + 1)) p) f s := by
  simp only [incForms, List.forall_mem_cons]
  refine ⟨?_, ?_, ?_, ?_, nofun⟩ <;> exact ⟨⟨rfl, rfl⟩, withStep_eq_withModify ..⟩

theorem decForms_modify (b : Byte) (w : Addr) (s : State) : ∀ f ∈ decForms b w s,
    IsModifyOf (fun m => BitVec.ofNat 8 (m.toNat + 255)) (fun m p => nzFlags (BitVec.ofNat 8 (m.toNat + 255)) p) f s := by
  simp only [decForms, List.forall_mem_cons]
  refine ⟨?_, ?_, ?_, ?_, nofun⟩ <;> exact ⟨⟨rfl, rfl⟩, withStep_eq_withModify ..⟩

/-! ## The obligations -/

/-- A mnemonic's immediate form and its forms that read do one operation. -/
theorem immediate_and_reads {op : Byte} {i : Byte → Instr} {forms : Byte → Addr → State → List MemForm}
    {g : Byte → State → State} {result : Byte → State → State → State} (hg : ActsAs g result)
    (henc : ∀ b, encode (i b) = [op, b]) (hexec : ∀ b s, exec (i b) s = withValue b 2 g s)
    (hf : ∀ b w s, ∀ f ∈ forms b w s, IsReadOf g f s) : Immediate op i result ∧ Reads forms result :=
  ⟨immediate_of_withValue hg henc hexec, reads_of_isReadOf hg hf⟩

/-- Settles O4: every form is `AddWithCarry` of A and M, whose signed overflow is the xor form of V. -/
theorem adcAddsWithCarry : Obligations.AdcAddsWithCarry :=
  ⟨immediate_and_reads addA_actsAs (fun _ => rfl) (fun _ _ => rfl) adcForms_read,
    fun a m p => outOfRange_eq_xor a m (carryIn_lt p)⟩

/-- Settles O5: every form is `AddWithCarry` of A and the complement of M, which is the difference as an integer. -/
theorem sbcSubtractsWithBorrow : Obligations.SbcSubtractsWithBorrow :=
  ⟨immediate_and_reads subA_actsAs (fun _ => rfl) (fun _ _ => rfl) sbcForms_read,
    fun a m p => ⟨sbcResult_eq_adcResult a m (carryIn p), sbcFlags_eq_adcFlags a m p⟩⟩

/-- Settles O6: every form loads A with its combination with M. -/
theorem logicCombinesBits : Obligations.LogicCombinesBits :=
  ⟨immediate_and_reads (combineA_actsAs (· &&& ·)) (fun _ => rfl) (fun _ _ => rfl) andForms_read,
    immediate_and_reads (combineA_actsAs (· ||| ·)) (fun _ => rfl) (fun _ _ => rfl) oraForms_read,
    immediate_and_reads (combineA_actsAs (· ^^^ ·)) (fun _ => rfl) (fun _ _ => rfl) eorForms_read⟩

/-- Settles O7: every form writes P alone, from the register it compares or tests with M. -/
theorem comparesAndBitTest : Obligations.ComparesAndBitTest :=
  ⟨⟨immediate_and_reads compareA_actsAs (fun _ => rfl) (fun _ _ => rfl) cmpForms_read,
    immediate_and_reads compareX_actsAs (fun _ => rfl) (fun _ _ => rfl) cpxForms_read,
    immediate_and_reads compareY_actsAs (fun _ => rfl) (fun _ _ => rfl) cpyForms_read⟩,
    reads_of_isReadOf bitTest_actsAs bitForms_read⟩

/-- Settles O8: in memory a read-modify-write of the byte, in an index register a load of the register stepped. -/
theorem incrementsAndDecrements : Obligations.IncrementsAndDecrements :=
  ⟨⟨modifies_of_isModifyOf incForms_modify, modifies_of_isModifyOf decForms_modify⟩,
    oneByte_of_withValue (·.x + 1) loadX_actsAs rfl fun _ => rfl,
    oneByte_of_withValue (·.y + 1) loadY_actsAs rfl fun _ => rfl,
    oneByte_of_withValue (·.x - 1) loadX_actsAs rfl fun _ => rfl,
    oneByte_of_withValue (·.y - 1) loadY_actsAs rfl fun _ => rfl⟩

end Sys2Proof.Machine
end

section
/-!
PROOFS. The shifts and rotates (R240 to R244): what each makes of its operand as a number, and each form as its shape.
-/

namespace Sys2Proof.Machine
open Sys2Proof.Statements

/-! ## The results and carries as numbers -/

/-- A clear bit is written by adding it. -/
theorem setBit_eq_add_of_clear {v : Byte} {n : Nat} (hn : n < 8) (hv : v.getLsbD n = false) (b : Bool) :
    setBit v n b = v + if b then 1#8 <<< n else 0 := by
  cases b
  case false =>
    apply BitVec.eq_of_getLsbD_eq
    intro i hi
    rw [getLsbD_setBit v n i false hn, if_neg Bool.false_ne_true, BitVec.ofNat_eq_ofNat, BitVec.add_zero]
    split
    · next h => rw [h, hv]
    · rfl
  case true =>
    have disjoint : v &&& (1#8 <<< n) = 0#8 := by
      apply BitVec.eq_of_getLsbD_eq
      intro i hi
      rw [BitVec.getLsbD_and, ← BitVec.twoPow_eq, BitVec.getLsbD_twoPow, BitVec.getLsbD_zero]
      by_cases h : n = i
      · rw [← h, hv, Bool.false_and]
      · rw [decide_eq_false h, Bool.and_false, Bool.and_false]
    exact (BitVec.add_eq_or_of_and_eq_zero v _ disjoint).symm

theorem getLsbD_zero_eq_lowBit (v : Byte) : v.getLsbD 0 = lowBit v := by
  rw [BitVec.getLsbD, Nat.testBit_zero, lowBit]

theorem shiftLeft_eq_aslResult (v : Byte) : v <<< 1 = aslResult v := by
  apply BitVec.eq_of_toNat_eq
  rw [BitVec.toNat_shiftLeft, aslResult, BitVec.toNat_ofNat, Nat.shiftLeft_eq]
  omega

theorem shiftRight_eq_lsrResult (v : Byte) : v >>> 1 = lsrResult v := by
  apply BitVec.eq_of_toNat_eq
  rw [BitVec.toNat_ushiftRight, lsrResult, BitVec.toNat_ofNat, Nat.shiftRight_eq_div_pow]
  omega

/-- The prior carry enters the vacated bit 0 (R243). -/
theorem setBit_shiftLeft_eq_rolResult (c : Bool) (v : Byte) : setBit (v <<< 1) 0 c = rolResult c.toNat v := by
  rw [setBit_eq_add_of_clear (by decide) (by simp), shiftLeft_eq_aslResult]
  apply BitVec.eq_of_toNat_eq
  rw [BitVec.toNat_add, aslResult, rolResult]
  cases c <;> simp

/-- The prior carry enters the vacated bit 7 (R244). -/
theorem setBit_shiftRight_eq_rorResult (c : Bool) (v : Byte) : setBit (v >>> 1) 7 c = rorResult c.toNat v := by
  rw [setBit_eq_add_of_clear (by decide) (by simp), shiftRight_eq_lsrResult]
  apply BitVec.eq_of_toNat_eq
  rw [BitVec.toNat_add, lsrResult, rorResult]
  cases c <;> simp

theorem shiftAsl_eq (v : Byte) : shiftAsl v = ⟨aslResult v, topBit v⟩ := by
  rw [shiftAsl, shiftLeft_eq_aslResult, getLsbD_seven, topBit]

theorem shiftLsr_eq (v : Byte) : shiftLsr v = ⟨lsrResult v, lowBit v⟩ := by
  rw [shiftLsr, shiftRight_eq_lsrResult, getLsbD_zero_eq_lowBit]

theorem shiftRol_eq (p v : Byte) : shiftRol (flagC p) v = ⟨rolResult (carryIn p) v, topBit v⟩ := by
  rw [shiftRol, setBit_shiftLeft_eq_rolResult, toNat_flagC, getLsbD_seven, topBit]

theorem shiftRor_eq (p v : Byte) : shiftRor (flagC p) v = ⟨rorResult (carryIn p) v, lowBit v⟩ := by
  rw [shiftRor, setBit_shiftRight_eq_rorResult, toNat_flagC, getLsbD_zero_eq_lowBit]

/-! ## The shapes -/

section
variable {shift : Byte → Shifted} {result : Byte → Byte} {carry : Byte → Bool}

/-- A shift of the accumulator: result, carry out, N and Z, and nothing else but PC (R240). -/
theorem shiftA_advance (h : ∀ v, shift v = ⟨result v, carry v⟩) (s : State) (n : Nat) :
    (shiftA (shift s.a) s).advance n =
      { s with a := result s.a, p := nzcFlags (result s.a) (carry s.a) s.p, pc := s.pc + BitVec.ofNat 16 n } := by
  rw [h, shiftA, shiftFlags, setNZ_setC]
  rfl

/-- A shift of memory is a read-modify-write of the result, with C from the bit shifted out (R240). -/
theorem withShift_eq_withModify (h : ∀ v, shift v = ⟨result v, carry v⟩) (ea : Addr) (n : Nat) (s : State) :
    withShift ea n shift s = withModify ea n result (fun m p => nzcFlags (result m) (carry m) p) s := by
  simp only [withShift, shiftFlags, h, setNZ_setC]

end

/-! ## The forms -/

theorem aslForms_modify (b : Byte) (w : Addr) (s : State) : ∀ f ∈ aslForms b w s,
    IsModifyOf aslResult (fun m p => nzcFlags (aslResult m) (topBit m) p) f s := by
  simp only [aslForms, List.forall_mem_cons]
  refine ⟨?_, ?_, ?_, ?_, nofun⟩ <;> exact ⟨⟨rfl, rfl⟩, withShift_eq_withModify shiftAsl_eq ..⟩

theorem lsrForms_modify (b : Byte) (w : Addr) (s : State) : ∀ f ∈ lsrForms b w s,
    IsModifyOf lsrResult (fun m p => nzcFlags (lsrResult m) (lowBit m) p) f s := by
  simp only [lsrForms, List.forall_mem_cons]
  refine ⟨?_, ?_, ?_, ?_, nofun⟩ <;> exact ⟨⟨rfl, rfl⟩, withShift_eq_withModify shiftLsr_eq ..⟩

theorem rolForms_modify (b : Byte) (w : Addr) (s : State) : ∀ f ∈ rolForms b w s,
    IsModifyOf (rolResult (carryIn s.p)) (fun m p => nzcFlags (rolResult (carryIn s.p) m) (topBit m) p) f s := by
  simp only [rolForms, List.forall_mem_cons]
  refine ⟨?_, ?_, ?_, ?_, nofun⟩ <;> exact ⟨⟨rfl, rfl⟩, withShift_eq_withModify (shiftRol_eq s.p) ..⟩

theorem rorForms_modify (b : Byte) (w : Addr) (s : State) : ∀ f ∈ rorForms b w s,
    IsModifyOf (rorResult (carryIn s.p)) (fun m p => nzcFlags (rorResult (carryIn s.p) m) (lowBit m) p) f s := by
  simp only [rorForms, List.forall_mem_cons]
  refine ⟨?_, ?_, ?_, ?_, nofun⟩ <;> exact ⟨⟨rfl, rfl⟩, withShift_eq_withModify (shiftRor_eq s.p) ..⟩

/-! ## The obligation -/

theorem accumulatorShifts : AccumulatorShifts :=
  ⟨fun s => ⟨rfl, congrArg Host.Outcome.next (shiftA_advance shiftAsl_eq s 1)⟩,
    fun s => ⟨rfl, congrArg Host.Outcome.next (shiftA_advance shiftLsr_eq s 1)⟩,
    fun s => ⟨rfl, congrArg Host.Outcome.next (shiftA_advance (shiftRol_eq s.p) s 1)⟩,
    fun s => ⟨rfl, congrArg Host.Outcome.next (shiftA_advance (shiftRor_eq s.p) s 1)⟩⟩

theorem memoryShifts : MemoryShifts :=
  ⟨modifies_of_isModifyOf aslForms_modify, modifies_of_isModifyOf lsrForms_modify,
    modifies_of_isModifyOf rolForms_modify, modifies_of_isModifyOf rorForms_modify⟩

/-- Settles O9: every form shifts its byte as a number, and the forms of memory are a read-modify-write of it. -/
theorem shiftsAndRotates : Obligations.ShiftsAndRotates := ⟨accumulatorShifts, memoryShifts⟩

end Sys2Proof.Machine
end

section
/-!
PROOFS. The stack and flag instructions and NOP (R260 to R271): each flag instruction is a masked write of its bit, and V is set
by the instructions whose rules name it only.
-/

namespace Sys2Proof.Machine
open Sys2Proof.Statements

/-! ## The stack instructions -/

theorem stackInstructionsPushAndPull : StackInstructionsPushAndPull :=
  ⟨fun _ => ⟨rfl, rfl⟩,
    fun s => ⟨rfl, congrArg Host.Outcome.next (loadA_actsAs.same (pulled s) (afterPull s) 1)⟩,
    fun _ => ⟨rfl, rfl⟩, fun _ => ⟨rfl, rfl⟩⟩

/-! ## The flag instructions and NOP -/

/-- An instruction that writes bit n of P replaces that one flag. -/
theorem oneByte_of_withFlags {op : Byte} {i : Instr} (n : Nat) (b : Bool) (henc : encode i = [op])
    (hexec : ∀ s, exec i s = withFlags (setBit · n b) s) :
    OneByte op i fun s => { s with p := replaceFlags (1#8 <<< n) (if b then 1#8 <<< n else 0) s.p } := fun s =>
  ⟨henc, by rw [hexec, withFlags, setBit_eq_replaceFlags]; rfl⟩

/-- A fixed entry of the default table is the whole cost (R456, R463). -/
theorem cycleCost_of_fixed {i : Instr} {s : State} {n : Nat} (htable : s.params.cycleTable = none)
    (hn : standardCost i.opcode = .fixed n) : cycleCost i s = n := by
  simp only [cycleCost, costOf, htable, hn]

/-! ## What can set V (R268) -/

/-- A bit of P outside the mask is kept by what keeps P outside the mask. -/
theorem getLsbD_of_outside {m p q : Byte} {n : Nat} (hn : n < 8) (hm : m.getLsbD n = false)
    (h : q &&& ~~~m = p &&& ~~~m) : q.getLsbD n = p.getLsbD n := by
  have hbit := congrArg (BitVec.getLsbD · n) h
  simpa only [BitVec.getLsbD_and, BitVec.getLsbD_not, hm, hn, decide_true, Bool.not_false, Bool.and_true] using hbit

/-- CLV is the only other instruction that names V. -/
theorem mem_or_clv_of_writesV {m : Mnemonic} (h : (writtenFlags m).getLsbD 6 = true) :
    m ∈ [.adc, .sbc, .bit, .plp, .rti] ∨ m = .clv := by
  cases m <;> revert h <;> decide

theorem eq_clv_of_mnemonic {i : Instr} (h : i.mnemonic = .clv) : i = .clv := by
  cases i with
  | clv => rfl
  | _ => cases h

theorem exec_clv_clearsV {s t : State} (h : exec .clv s = .next t) : t.p.getLsbD 6 = false := by
  cases h
  exact getLsbD_setBit s.p 6 6 false (by decide)

theorem setsV_only {i : Instr} {s t : State} (h : exec i s = .next t) (hs : s.p.getLsbD 6 = false)
    (ht : t.p.getLsbD 6 = true) : i.mnemonic ∈ [.adc, .sbc, .bit, .plp, .rti] := by
  obtain ⟨-, -, -, -, -, hframe, -⟩ := registersFlagsAndSurroundingsFrame i s t h
  have hwrites : (writtenFlags i.mnemonic).getLsbD 6 = true := by
    by_contra hno
    have hkept := getLsbD_of_outside (by decide) (eq_false_of_ne_true hno) hframe
    rw [hs, ht] at hkept
    exact Bool.false_ne_true hkept.symm
  rcases mem_or_clv_of_writesV hwrites with hmem | hclv
  · exact hmem
  · rw [eq_clv_of_mnemonic hclv] at h
    exact absurd ((exec_clv_clearsV h).symm.trans ht) Bool.false_ne_true

/-! ## The obligation -/

theorem flagInstructionsAndNop : FlagInstructionsAndNop :=
  ⟨oneByte_of_withFlags 0 false rfl fun _ => rfl, oneByte_of_withFlags 0 true rfl fun _ => rfl,
    oneByte_of_withFlags 2 false rfl fun _ => rfl, oneByte_of_withFlags 2 true rfl fun _ => rfl,
    oneByte_of_withFlags 6 false rfl fun _ => rfl, oneByte_of_withFlags 3 false rfl fun _ => rfl,
    oneByte_of_withFlags 3 true rfl fun _ => rfl, fun _ => ⟨rfl, rfl⟩,
    fun _ htable => cycleCost_of_fixed htable rfl, fun _ _ _ => setsV_only⟩

/-- Settles O10: a push is a write of the stack byte and a pull a read of it, each flag instruction replaces its one flag, and
what turns V on is among the instructions whose frame lets them write V, of which CLV only clears it. -/
theorem stackAndFlagInstructions : Obligations.StackAndFlagInstructions :=
  ⟨stackInstructionsPushAndPull, flagInstructionsAndNop⟩

end Sys2Proof.Machine
end

section
/-!
PROOFS. The branches (R290 to R298): each tests one bit of P, and the target is a sum of bit vectors, so a sum of integers modulo
2^16.
-/

namespace Sys2Proof.Machine
open Sys2Proof.Statements

theorem getLsbD_eq_pBit (n : Nat) (p : Byte) : p.getLsbD n = pBit n p := getLsbD_eq_digit p n

/-- The sign-extended displacement is the signed byte (R155). -/
theorem branchTarget_eq_ofInt (pc : Addr) (b : Byte) :
    branchTarget pc b = BitVec.ofInt 16 ((pc.toNat : Int) + 2 + b.toInt) := by
  rw [BitVec.ofInt_add, BitVec.ofInt_add, BitVec.ofInt_natCast, BitVec.ofNat_toNat, BitVec.setWidth_eq]
  rfl

/-- A branch on a test of one bit of P goes where R290 says. -/
theorem branch_of_branchIf {op : Byte} {i : Byte → Instr} (test : Bool → Bool) (n : Nat)
    (henc : ∀ b, encode (i b) = [op, b])
    (hexec : ∀ b s, exec (i b) s = branchIf (test (s.p.getLsbD n)) b s) : Branch op i fun p => test (pBit n p) :=
  fun b s => ⟨henc b, by rw [hexec, branchIf, getLsbD_eq_pBit, branchTarget_eq_ofInt]; rfl⟩

/-- Settles O12: each branch tests one bit of P, for 1 or for 0. -/
theorem branchesFollowTheirFlag : Obligations.BranchesFollowTheirFlag :=
  ⟨branch_of_branchIf not 0 (fun _ => rfl) fun _ _ => rfl,
    branch_of_branchIf id 0 (fun _ => rfl) fun _ _ => rfl,
    branch_of_branchIf id 1 (fun _ => rfl) fun _ _ => rfl,
    branch_of_branchIf not 1 (fun _ => rfl) fun _ _ => rfl,
    branch_of_branchIf id 7 (fun _ => rfl) fun _ _ => rfl,
    branch_of_branchIf not 7 (fun _ => rfl) fun _ _ => rfl,
    branch_of_branchIf not 6 (fun _ => rfl) fun _ _ => rfl,
    branch_of_branchIf id 6 (fun _ => rfl) fun _ _ => rfl⟩

end Sys2Proof.Machine
end

section
/-!
PROOFS. Interrupt entries and returns (R302, R303, R329): an entry pushes three bytes, sets I and reads its vector in the
cartridge, and stops exactly where a vector byte is not there.
-/

namespace Sys2Proof.Machine
open Sys2Proof.Statements

/-! ## Reads of the cartridge -/

theorem memRead_cart {a : Addr} {s : State} (ha : 0x8000 ≤ a.toNat) : memRead a s = cartRead a s := by
  simp only [memRead, regionOf_cart ha]

theorem memRead_cart_some {a : Addr} {s : State} {b : Byte} (ha : 0x8000 ≤ a.toNat) (hb : cartByte s a = some b) :
    memRead a s = .next (b, s) := by
  simp only [memRead_cart ha, cartRead, hb]

theorem memRead_cart_none {a : Addr} {s : State} (ha : 0x8000 ≤ a.toNat) (hb : cartByte s a = none) :
    memRead a s = .fault (.accessFault a .read) := by
  simp only [memRead_cart ha, cartRead, hb]

/-- The byte at an address of the cartridge depends on the cartridge, its mapper and its windows only. -/
theorem cartByte_congr {s t : State} (hc : t.cart = s.cart) (hm : t.mapper = s.mapper) (hw : t.windows = s.windows)
    (a : Addr) : cartByte t a = cartByte s a := by
  simp only [cartByte, hc, hm, hw]

/-- In video mode every address of the cartridge has its byte (R104). -/
theorem cartByte_of_video {s : State} (hn : s.isNsf = false) (a : Addr) : ∃ b, cartByte s a = some b := by
  cases hc : s.cart with
  | nes f => exact ⟨prgRead f s.windows a, by simp only [cartByte, hc]⟩
  | nsf f => exact absurd (hn.symm.trans (isNsf_of_nsf hc)) Bool.false_ne_true

/-! ## Taking an interrupt -/

/-- The three pushes of an interrupt go to the three bytes at and below S (R302, R329). -/
theorem push_push16 (ret : Addr) (q : Byte) (s : State) :
    push q (push16 ret s) = { s with ram := interruptRam s ret q, sp := s.sp - 3 } := by
  have h2 : s.sp - 1 - 1 = s.sp - 2 := sub_one_sub_ofNat s.sp 1
  have h3 : s.sp - 2 - 1 = s.sp - 3 := (sub_sub ..).trans rfl
  simp only [push, push16, State.setRam, State.setSp, h2, h3, interruptRam, stackIndex, stackByteAt]

theorem setI_true (p : Byte) : setI true p = replaceFlags 0x04 0x04 p := setBit_eq_replaceFlags p 2 true

/-- The state in which an interrupt entry reads its vector: the three bytes pushed, I set (R302, R329). -/
def interrupted (ret : Addr) (q : Byte) (s : State) : State :=
  { s with ram := interruptRam s ret q, sp := s.sp - 3, p := replaceFlags 0x04 0x04 s.p }

theorem takeInterrupt_eq (ret : Addr) (q : Byte) (vector : Addr) (s : State) :
    takeInterrupt ret q vector s =
      andThen (read16 vector (interrupted ret q s)) fun r => .next { r.2 with pc := r.1 } := by
  have hs : (push q (push16 ret s)).setP (setI true (push q (push16 ret s)).p) = interrupted ret q s := by
    rw [push_push16, setI_true]
    rfl
  rw [← hs]
  rfl

/-- The pushes lie below the cartridge (R69). -/
theorem cartByte_interrupted (ret : Addr) (q : Byte) (s : State) (a : Addr) :
    cartByte (interrupted ret q s) a = cartByte s a := cartByte_congr rfl rfl rfl a

section
variable {ret vector : Addr} {q : Byte} {s : State}

/-- With both vector bytes there, the entry ends at the vector. -/
theorem takeInterrupt_next {lo hi : Byte} (hv : 0x8000 ≤ vector.toNat) (hv' : 0x8000 ≤ (vector + 1).toNat)
    (hlo : cartByte s vector = some lo) (hhi : cartByte s (vector + 1) = some hi) :
    takeInterrupt ret q vector s = .next { interrupted ret q s with pc := word hi lo } := by
  rw [takeInterrupt_eq, read16, memRead_cart_some hv ((cartByte_interrupted ..).trans hlo), andThen_next,
    memRead_cart_some hv' ((cartByte_interrupted ..).trans hhi), andThen_next, andThen_next, wordOf_eq_word]

theorem takeInterrupt_fault_low (hv : 0x8000 ≤ vector.toNat) (hlo : cartByte s vector = none) :
    takeInterrupt ret q vector s = .fault (.accessFault vector .read) := by
  rw [takeInterrupt_eq, read16, memRead_cart_none hv ((cartByte_interrupted ..).trans hlo), andThen_fault, andThen_fault]

theorem takeInterrupt_fault_high {lo : Byte} (hv : 0x8000 ≤ vector.toNat) (hv' : 0x8000 ≤ (vector + 1).toNat)
    (hlo : cartByte s vector = some lo) (hhi : cartByte s (vector + 1) = none) :
    takeInterrupt ret q vector s = .fault (.accessFault (vector + 1) .read) := by
  rw [takeInterrupt_eq, read16, memRead_cart_some hv ((cartByte_interrupted ..).trans hlo), andThen_next,
    memRead_cart_none hv' ((cartByte_interrupted ..).trans hhi), andThen_fault, andThen_fault]

/-- An entry that completes pushed the three bytes and set I; reading the vector wrote PC alone. -/
theorem takeInterrupt_leaves {t : State} (hv : 0x8000 ≤ vector.toNat) (hv' : 0x8000 ≤ (vector + 1).toNat)
    (h : takeInterrupt ret q vector s = .next t) : ∃ pc, t = { interrupted ret q s with pc := pc } := by
  rw [takeInterrupt_eq] at h
  obtain ⟨⟨w, v⟩, hr, ht⟩ := andThen_eq_next.1 h
  cases ht
  obtain ⟨l, u, r, hl, hh⟩ := readWord_eq_next hr
  obtain rfl := memRead_cart_state hv hl
  obtain rfl := memRead_cart_state hv' hh
  exact ⟨w, rfl⟩

/-- An NMI entry that completes also cleared the latch and counted 7 cycles (R329). -/
theorem nmiEntry_leaves {t : State} (h : nmiEntry s = .next t) :
    ∃ pc, t = { interrupted s.pc ((s.p &&& 0xEF) ||| 0x20) s with pc := pc, nmiPending := false, cycles := s.cycles + 7 } := by
  obtain ⟨v, hv, ht⟩ := andThen_eq_next.1 h
  obtain ⟨pc, rfl⟩ := takeInterrupt_leaves (by decide) (by decide) hv
  exact ⟨pc, (Host.Outcome.next.inj ht).symm⟩

end

/-! ## BRK and RTI -/

theorem exec_brk (s : State) : exec .brk s = takeInterrupt (s.pc + 2) (s.p ||| 0x30) 0xFFFE s := rfl

theorem brkEntersThroughItsVector : BrkEntersThroughItsVector := by
  intro s
  rw [exec_brk]
  refine ⟨rfl, rfl, fun lo hi hlo hhi => ?_, takeInterrupt_fault_low (by decide),
    fun lo => takeInterrupt_fault_high (by decide) (by decide), fun hn => ?_⟩
  · rw [takeInterrupt_next (by decide) (by decide) hlo hhi]
    rfl
  · obtain ⟨lo, hlo⟩ := cartByte_of_video hn 0xFFFE
    obtain ⟨hi, hhi⟩ := cartByte_of_video hn 0xFFFF
    exact ⟨lo, hi, hlo, hhi⟩

theorem rtiRestoresStatusAndPc : RtiRestoresStatusAndPc := by
  intro s
  have hexec : exec .rti s = .next (returnFromInterrupt s) := rfl
  have h2 : s.sp + 1 + 1 = s.sp + 2 := add_one_add_ofNat s.sp 1
  have h3 : s.sp + 2 + 1 = s.sp + 3 := (add_assoc ..).trans rfl
  refine ⟨rfl, ?_⟩
  simp only [hexec, returnFromInterrupt, pulled16, afterPull16, pulled, afterPull, pulledStatus, State.setSp, State.setP,
    State.setPc, wordOf_eq_word, h2, h3]
  rfl

/-- Settles O14: BRK takes an interrupt through $FFFE, whose two reads complete or fault as the cartridge has their bytes; RTI is
three pulls. -/
theorem brkAndRti : Obligations.BrkAndRti := ⟨brkEntersThroughItsVector, rtiRestoresStatusAndPc⟩

end Sys2Proof.Machine
end

section
/-!
PROOFS. Returns after entries (R301, R333): what an entry pushes, the return pulls in reverse order, so PC and S come back; and P
comes back where the pushed copy agrees with it outside the B bits.
-/

namespace Sys2Proof.Machine
open Sys2Proof.Statements

/-- After up to 256 pushes the bytes above S are the pushed ones, the last first. -/
theorem pushAll_read_above {bs : List Byte} {s : State} (hram : s.ram.wf = true) (hlen : bs.length ≤ 256) (j : Nat)
    (hj : j < bs.length) :
    (pushAll bs s).ram.read (stackByteAt ((pushAll bs s).sp + BitVec.ofNat 8 (j + 1))) = bs[bs.length - 1 - j] := by
  have hpull := (pushedBytesPullReversed s bs hram hlen).1
  have hget := pullAll_get bs.length (pushAll bs s) j (by rwa [length_pullAll])
  simp only [hpull, List.getElem_reverse] at hget
  exact hget.symm

/-! ## RTS after JSR -/

theorem rtsUndoesJsr : RtsUndoesJsr := by
  intro s t w hram h
  have hjsr : exec (.jsr w) s = .next ((pushAll [hiByte (s.pc + 2), loByte (s.pc + 2)] s).setPc w) := rfl
  obtain rfl := Host.Outcome.next.inj (h.symm.trans hjsr)
  have hread := pushAll_read_above (bs := [hiByte (s.pc + 2), loByte (s.pc + 2)]) hram (by simp)
  have hlo := hread 0 (by simp)
  have hhi := hread 1 (by simp)
  refine ⟨_, (subroutinesCallAndReturn.2 _).2, ?_, ?_, rfl⟩
  · calc word _ _ + 1
      _ = word (hiByte (s.pc + 2)) (loByte (s.pc + 2)) + 1 := congrArg₂ (word · · + 1) hhi hlo
      _ = s.pc + 3 := by rw [word_bytes, add_assoc]; rfl
  · rw [State.setPc_sp, pushAll_sp]
    exact sub_add_cancel s.sp 2

/-! ## RTI after an interrupt entry -/

/-- A pulled status that agrees with p outside the B bits, over a P that agrees with it on them, is p (R26). -/
theorem pulledStatus_eq {q p p' : Byte} (hq : q &&& ~~~bMask = p &&& ~~~bMask) (hp : p' &&& bMask = p &&& bMask) :
    pulledStatus q p' = p := by
  rw [pulledStatus, hq, hp, ← BitVec.and_or_distrib_left]
  exact BitVec.and_allOnes

/-- The bytes that RTI pulls after an entry. -/
theorem interruptRam_read (ret : Addr) (q : Byte) {s : State} (hram : s.ram.wf = true) :
    (interruptRam s ret q).read (stackByteAt (s.sp - 3 + 1)) = q ∧
    (interruptRam s ret q).read (stackByteAt (s.sp - 3 + 2)) = loByte ret ∧
    (interruptRam s ret q).read (stackByteAt (s.sp - 3 + 3)) = hiByte ret := by
  have hread := pushAll_read_above (bs := [hiByte ret, loByte ret, q]) hram (by simp)
  have hpush : pushAll [hiByte ret, loByte ret, q] s = { s with ram := interruptRam s ret q, sp := s.sp - 3 } :=
    push_push16 ret q s
  rw [hpush] at hread
  exact ⟨hread 0 (by simp), hread 1 (by simp), hread 2 (by simp)⟩

/-- RTI after the pushes of an entry restores PC, S and P, whatever the entry leaves in PC, the NMI latch and the cycle
counter. -/
theorem rti_of_interrupted {ret : Addr} {q : Byte} {s : State} (hram : s.ram.wf = true)
    (hq : q &&& ~~~bMask = s.p &&& ~~~bMask) (pc : Addr) (pending : Bool) (cycles : Nat) :
    ∃ u, exec .rti { interrupted ret q s with pc := pc, nmiPending := pending, cycles := cycles } = .next u ∧
      u.pc = ret ∧ u.sp = s.sp ∧ u.p = s.p := by
  obtain ⟨hp, hlo, hhi⟩ := interruptRam_read ret q hram
  refine ⟨_, (rtiRestoresStatusAndPc _).2, ?_, ?_, ?_⟩
  · simp only [interrupted, hlo, hhi, word_bytes]
  · exact BitVec.sub_add_cancel s.sp 3
  · calc pulledStatus ((interruptRam s ret q).read (stackByteAt (s.sp - 3 + 1))) (replaceFlags 0x04 0x04 s.p)
      _ = s.p := by rw [hp, ← setI_true, pulledStatus_eq hq (setI_bMask true s.p)]

theorem rtiUndoesInterruptEntry : RtiUndoesInterruptEntry := by
  intro s t hram
  rw [exec_brk]
  refine ⟨fun h => ?_, fun h => ?_⟩
  · have hq : ((s.p &&& 0xEF) ||| 0x20) &&& ~~~bMask = s.p &&& ~~~bMask := by
      rw [BitVec.and_or_distrib_right, BitVec.and_assoc]
      exact BitVec.or_zero
    obtain ⟨pc, rfl⟩ := nmiEntry_leaves h
    exact rti_of_interrupted hram hq pc false (s.cycles + 7)
  · have hq : (s.p ||| 0x30) &&& ~~~bMask = s.p &&& ~~~bMask := by
      rw [BitVec.and_or_distrib_right]
      exact BitVec.or_zero
    obtain ⟨pc, rfl⟩ := takeInterrupt_leaves (by decide) (by decide) h
    exact rti_of_interrupted hram hq pc s.nmiPending s.cycles

/-- Settles O16: what the entry pushed is pulled in reverse order. -/
theorem returnsUndoEntries : Obligations.ReturnsUndoEntries := ⟨rtsUndoesJsr, rtiUndoesInterruptEntry⟩

end Sys2Proof.Machine
end

section
/-!
PROOFS. The NMI entry (R329, R455): an interrupt through $FFFA that clears the latch and costs 7 cycles; a granted step with the
latch set is that entry and the devices' advance.
-/

namespace Sys2Proof.Machine
open Sys2Proof.Statements

section
variable {s : State}

/-- With both bytes of $FFFA there, the NMI entry ends at the vector. -/
theorem nmiEntry_next {lo hi : Byte} (hlo : cartByte s 0xFFFA = some lo) (hhi : cartByte s 0xFFFB = some hi) :
    nmiEntry s = .next
      { interrupted s.pc ((s.p &&& 0xEF) ||| 0x20) s with
        pc := word hi lo, nmiPending := false, cycles := s.cycles + 7 } := by
  rw [nmiEntry, nmiVector, takeInterrupt_next (by decide) (by decide) hlo hhi, andThen_next]
  rfl

/-- The NMI entry faults as the taking of its interrupt does. -/
theorem nmiEntry_fault {e : Fault} (h : takeInterrupt s.pc ((s.p &&& 0xEF) ||| 0x20) 0xFFFA s = .fault e) :
    nmiEntry s = .fault e := congrArg (andThen · _) h

/-- A system step with the latch set enters the NMI before any instruction (R331). -/
theorem systemStep_of_nmi (hn : s.nmiPending = true) :
    systemStep s = andThen (nmiEntry s) fun t => .next (movedDevices 7 t) := by
  simp only [systemStep, hn, if_true, advanceDevices_eq_movedDevices]
  rfl

end

/-- Settles O15: the entry is an interrupt through $FFFA, whose two reads complete or fault as the cartridge has their bytes; a
granted step with the latch set is a system step that starts with it. -/
theorem nmiEntrySavesAndJumps : Obligations.NmiEntrySavesAndJumps := fun s =>
  ⟨fun _ _ => nmiEntry_next, fun hlo => nmiEntry_fault (takeInterrupt_fault_low (by decide) hlo),
    fun _ hlo hhi => nmiEntry_fault (takeInterrupt_fault_high (by decide) (by decide) hlo hhi),
    fun hr hq hn => (step_of_noMoves hr hq).trans (systemStep_of_nmi hn),
    fun _ _ hr hq hn => (step_of_grant hr hq).trans (systemStep_of_nmi hn)⟩

end Sys2Proof.Machine
end

section
/-!
PROOFS. Stops and the host's moves (R320 to R324, R450, R454, R459): a run that has ended stays as it is for ever; a running CORE
with a move listed takes that move.
-/

namespace Sys2Proof.Machine
open Sys2Proof.Statements

/-! ## Runs that end -/

section
variable {s : State}

theorem settle_next (hr : s.run = .running) (t : State) : settle s (.next t) = t := by
  simp only [settle, hr]

theorem settle_fault (hr : s.run = .running) (e : Fault) : settle s (.fault e) = { s with run := .faulted e } := by
  simp only [settle, hr]

theorem settle_refused (hr : s.run = .running) (r : Refusal) : settle s (.refused r) = { s with run := .refused r } := by
  simp only [settle, hr]

theorem settle_of_ended (h : s.run ≠ .running) (o : Out State) : settle s o = s := by
  unfold settle
  split
  next hr => exact absurd hr h
  all_goals rfl

/-- A run that has ended stays as it is (R322). -/
theorem runFor_of_ended (h : s.run ≠ .running) (n : Nat) : runFor n s = s := by
  induction n with
  | zero => rfl
  | succ n ih => rw [runFor, settle_of_ended h, ih]

/-- Where one step ends the run in t, every longer run is there too. -/
theorem runFor_succ_of_ends {t : State} (h : settle s (step s) = t) (ht : t.run ≠ .running) (n : Nat) :
    runFor (n + 1) s = t := by
  rw [runFor, h, runFor_of_ended ht]

end

/-- Settles O54: the first step of the run settles in the stop, in which a run has ended. -/
theorem stopsArePreciseAndFinal : Obligations.StopsArePreciseAndFinal := by
  intro s n hr
  refine ⟨fun e h => ?_, fun r h => ?_⟩
  · have hrun : runFor (n + 1) s = { s with run := .faulted e } :=
      runFor_succ_of_ends (h ▸ settle_fault hr e) RunState.noConfusion n
    exact ⟨hrun, step_of_faulted (by rw [hrun])⟩
  · have hrun : runFor (n + 1) s = { s with run := .refused r } :=
      runFor_succ_of_ends (h ▸ settle_refused hr r) RunState.noConfusion n
    exact ⟨hrun, step_of_refused (by rw [hrun])⟩

/-! ## The host's moves -/

section
variable {s : State} {rest : List HostMove}

/-- A running CORE takes the first listed move (R459). -/
theorem step_of_move {m : HostMove} (hr : s.run = .running) (hq : s.hostQueue = m :: rest) :
    step s = hostMove m { s with hostQueue := rest } := by
  simp only [step, runStep, hr, boundary, hq]

/-- A granted step of a running CORE is a system step; the host's side aside. -/
theorem step_of_grantsStep (hr : s.run = .running) (hg : grantsStep s) :
    ∃ buttons queue, step s = systemStep { s with buttons := buttons, hostQueue := queue } := by
  rcases hg with hq | ⟨v, rest, hq⟩
  · exact ⟨s.buttons, s.hostQueue, step_of_noMoves hr hq⟩
  · exact ⟨v, rest, step_of_grant hr hq⟩

theorem playReached_nsf {f : NsfFile} (hc : s.cart = .nsf f) : playReached s = (s.reachedPlay || s.pc == playCall f) := by
  simp only [playReached, hc]

theorem changeTrack_nsf {f : NsfFile} (hc : s.cart = .nsf f) (t : Byte) (d : Draws) :
    changeTrack t d s = powerUp s (.nsf f) t d := by
  simp only [changeTrack, hc]

theorem playTimer_nsf {f : NsfFile} (hc : s.cart = .nsf f) :
    playTimer s = s.setPc (if s.reachedPlay then playCall f else s.pc) := by
  simp only [playTimer, hc]
  split <;> rfl

/-- A system step of an NSF player notes whether PC is at the play call where it ends (R454). -/
theorem systemStep_reachedPlay {t : State} {f : NsfFile} (h : systemStep s = .next t) (hc : s.cart = .nsf f) :
    t.reachedPlay = (s.reachedPlay || t.pc == playCall f) := by
  obtain ⟨c, nmi, u, htouch, -, -, rfl⟩ := systemStep_effect h
  obtain ⟨-, -, -, hcart, -, -, hreached, -⟩ := htouch.surroundings
  rw [← hreached]
  exact playReached_nsf (s := addCycles c { u with nmiPending := nmi }) (hcart.trans hc)

end

theorem budgetEndsTheRun : BudgetEndsTheRun := by
  intro s rest n hr hq
  have hstep : step s = .next (endOnBudget { s with hostQueue := rest }) := step_of_move hr hq
  refine ⟨fun hover => ?_, fun hover => ?_⟩
  · have hends : step s = .next { s with hostQueue := rest, run := .terminated } :=
      hstep.trans (congrArg _ (if_pos hover))
    exact ⟨hends, runFor_succ_of_ends (hends ▸ settle_next hr _) RunState.noConfusion n⟩
  · exact hstep.trans (congrArg _ (if_neg hover))

theorem playTimerAndTrackChange : PlayTimerAndTrackChange := by
  intro s f rest hr hc
  refine ⟨fun hq => ?_, fun t d hq => ?_, fun t hg h => ?_⟩
  · exact (step_of_move hr hq).trans (congrArg Host.Outcome.next (playTimer_nsf (s := { s with hostQueue := rest }) hc))
  · exact (step_of_move hr hq).trans (changeTrack_nsf (s := { s with hostQueue := rest }) hc t d)
  · obtain ⟨buttons, queue, hstep⟩ := step_of_grantsStep hr hg
    exact (systemStep_reachedPlay (hstep.symm.trans h) hc :)

theorem loadsPowerUp : LoadsPowerUp := by
  intro s rest file d hr
  refine ⟨fun hq => ?_, fun hq => ?_, step_of_move hr⟩
  · have hstep : step s = loadNes file d { s with hostQueue := rest } := step_of_move hr hq
    refine ⟨fun e he => ?_, fun f hf => ?_⟩
    · rw [hstep, loadNes, he, andThen_fault]
    · rw [hstep, loadNes, hf, andThen_next]
  · have hstep : step s = loadNsf file d { s with hostQueue := rest } := step_of_move hr hq
    refine ⟨fun e he => ?_, fun f hf => ⟨f.start - 1, ?_, ?_⟩⟩
    · rw [hstep, loadNsf, he, andThen_fault]
    · rw [BitVec.toNat_sub, Nat.add_comm]
      rfl
    · rw [hstep, loadNsf, hf, andThen_next]

/-- Settles O55: a running CORE takes the listed move, which is the budget's end, a write of PC, a power-up or nothing; a granted
step is a system step, which makes the note. -/
theorem hostMovesTakeEffect : Obligations.HostMovesTakeEffect :=
  ⟨budgetEndsTheRun, playTimerAndTrackChange, loadsPowerUp⟩

end Sys2Proof.Machine
end

section
/-!
PROOFS. The PPU as the CPU and the frame see it: its registers at every mirror (R350 to R354, R359), and the sequencer, whose
n-th tick lies n dots on (R355) and whose reports and vblank flag follow the positions arrived at (R356, R357).
-/

namespace Sys2Proof.Machine
open Sys2Proof.Statements

/-! ## The registers -/

section
variable {s : State} {a : Addr}

theorem regionOf_ppu (hn : s.isNsf = false) (h1 : 0x2000 ≤ a.toNat) (h2 : a.toNat < 0x4000) :
    regionOf s a = .ppu (a.toNat % 8) := by
  simp (disch := omega) only [regionOf, if_neg, if_pos, hn, Bool.false_eq_true, if_false]

theorem regionOf_oamDma (hn : s.isNsf = false) (h : a.toNat = 0x4014) : regionOf s a = .oamDma := by
  simp (disch := omega) only [regionOf, if_neg, if_pos, hn, Bool.false_eq_true, if_false]

theorem memRead_ppu (hn : s.isNsf = false) (h1 : 0x2000 ≤ a.toNat) (h2 : a.toNat < 0x4000) :
    memRead a s = ppuRead (a.toNat % 8) a s := by
  simp only [memRead, regionOf_ppu hn h1 h2]

theorem memWrite_ppu (hn : s.isNsf = false) (h1 : 0x2000 ≤ a.toNat) (h2 : a.toNat < 0x4000) (v : Byte) :
    memWrite a v s = ppuWrite (a.toNat % 8) a v s := by
  simp only [memWrite, regionOf_ppu hn h1 h2]

/-- Only PPUSTATUS has a read (R354). -/
theorem ppuRead_refused {r : Nat} (h : r ≠ 2) : ppuRead r a s = .refused (.unmodelled a .read) := if_neg h

/-- Registers 3 to 7 have no write (R354). -/
theorem ppuWrite_refused {r : Nat} (h : 3 ≤ r) (v : Byte) : ppuWrite r a v s = .refused (.unmodelled a .write) := by
  rw [ppuWrite, if_neg (by omega), if_neg (by omega), if_neg (by omega)]

end

/-- Settles O31: at every mirror the address's low three bits choose the register, whose read and write are the model's;
$4014 has a region of its own. -/
theorem ppuRegisters : Obligations.PpuRegisters := by
  intro s a v hn
  refine ⟨fun h1 h2 => ?_, fun h => ?_⟩
  · have hread : memRead a s = ppuRead (a.toNat % 8) a s := memRead_ppu hn h1 h2
    have hwrite : ∀ v, memWrite a v s = ppuWrite (a.toNat % 8) a v s := memWrite_ppu hn h1 h2
    refine ⟨fun h => ⟨?_, ?_⟩, fun h => ⟨?_, ?_⟩, fun h => ⟨?_, ?_⟩, fun h => ⟨?_, fun v => ?_⟩⟩
    · exact hread.trans (ppuRead_refused (by omega))
    · rw [hwrite, h]; rfl
    · exact hread.trans (ppuRead_refused (by omega))
    · rw [hwrite, h]; rfl
    · rw [ReadGives, hread, h]; rfl
    · rw [hwrite, h]; rfl
    · exact hread.trans (ppuRead_refused (by omega))
    · exact (hwrite v).trans (ppuWrite_refused h v)
  · have hr : regionOf s a = .oamDma := regionOf_oamDma hn h
    exact ⟨by simp only [RefusesRead, memRead, hr], fun v => by simp only [memWrite, hr]⟩

/-! ## The position -/

section
variable {r : PpuRun}

theorem positionAfter_zero {p : PpuState} (h : inFrame p) : positionAfter 0 p = framePosition p := by
  obtain ⟨hs, hd⟩ := h
  rw [positionAfter, framePosition]
  omega

theorem positionAfter_succ (n : Nat) (p : PpuState) :
    positionAfter (n + 1) p = (positionAfter n p + 1) % dotsPerFrame := by
  rw [positionAfter, positionAfter, dotsPerFrame]
  omega

theorem dotTick_staysInFrame (h : inFrame r.ppu) : inFrame (dotTick r).ppu := by
  obtain ⟨hs, hd, -⟩ := dotTick_framePosition h.1 h.2
  exact ⟨hs, hd⟩

theorem dotTicks_stayInFrame (n : Nat) (h : inFrame r.ppu) : inFrame (dotTicks n r).ppu :=
  dotTicks_keeps (P := fun q => inFrame q.ppu) (fun _ => dotTick_staysInFrame) n r h

/-- The position after n ticks, whatever the vblank flag (R355). -/
theorem framePosition_dotTicks (n : Nat) (h : inFrame r.ppu) :
    framePosition (dotTicks n r).ppu = positionAfter n r.ppu := by
  induction n with
  | zero => exact (positionAfter_zero h).symm
  | succ n ih =>
    obtain ⟨hs, hd⟩ := dotTicks_stayInFrame n h
    obtain ⟨-, -, hp⟩ := dotTick_framePosition hs hd
    rw [dotTicks_succ, hp, ih, positionAfter_succ]

/-- Dot ticks keep the two control registers. -/
theorem dotTicks_controls (n : Nat) (r : PpuRun) :
    (dotTicks n r).ppu.ctrl = r.ppu.ctrl ∧ (dotTicks n r).ppu.mask = r.ppu.mask := by
  refine dotTicks_keeps (P := fun q => q.ppu.ctrl = r.ppu.ctrl ∧ q.ppu.mask = r.ppu.mask)
    (fun q hq => ?_) n r ⟨rfl, rfl⟩
  obtain ⟨hc, hm, -, -⟩ := dotTick_keeps q
  obtain ⟨hqc, hqm⟩ := hq
  exact ⟨hc.trans hqc, hm.trans hqm⟩

end

/-- Settles O36, by induction on the ticks, each of which moves the dot count by one. -/
theorem dotTicksMoveThePosition : Obligations.DotTicksMoveThePosition := by
  intro n r h
  obtain ⟨hctrl, hmask⟩ := dotTicks_controls n r
  exact ⟨dotTicks_stayInFrame n h, framePosition_dotTicks n h, hctrl, hmask, dotTicks_rams n r⟩

/-! ## What a tick reports -/

/-- In the frame a line's dot 1 is one dot count. -/
theorem atDotOne_iff {p : PpuState} (h : inFrame p) (line : Nat) :
    (p.scanline = line ∧ p.dot = 1) ↔ framePosition p = line * 341 + 1 := by
  obtain ⟨-, hd⟩ := h
  rw [framePosition]
  omega

/-- What the events at dot count n make of the two reports and of vblank, from a run r to a run q (R357). -/
structure EventsAt (n : Nat) (r q : PpuRun) : Prop where
  frame : q.frame = true ↔ r.frame = true ∨ n = vblankStart
  nmi : q.nmi = true ↔ r.nmi = true ∨ (r.ppu.ctrl.getLsbD 7 = true ∧ n = vblankStart)
  vblank : q.ppu.vblank = true ↔ n = vblankStart ∨ (r.ppu.vblank = true ∧ n ≠ vblankEnd)

section
variable {r : PpuRun}

theorem positionEvents_eventsAt (h : inFrame (positionEvents r).ppu) :
    EventsAt (framePosition (positionEvents r).ppu) r (positionEvents r) := by
  obtain ⟨hline, hdot, -⟩ := positionEvents_keeps r
  have hstart : (r.ppu.scanline = vblankLine ∧ r.ppu.dot = 1) ↔ framePosition (positionEvents r).ppu = vblankStart := by
    rw [← hline, ← hdot]; exact atDotOne_iff h vblankLine
  have hend : (r.ppu.scanline = preRenderLine ∧ r.ppu.dot = 1) ↔ framePosition (positionEvents r).ppu = vblankEnd := by
    rw [← hline, ← hdot]; exact atDotOne_iff h preRenderLine
  generalize framePosition (positionEvents r).ppu = n at hstart hend ⊢
  have hne : vblankEnd ≠ vblankStart := by decide
  simp only [positionEvents, hstart, hend]
  by_cases hs : n = vblankStart
  · constructor <;> simp [hs, hne.symm, nmiEnabled]
  · by_cases he : n = vblankEnd
    · constructor <;> simp [he, hne]
    · constructor <;> simp [hs, he]

/-- A tick has the events of the position it arrives at. -/
theorem dotTick_eventsAt (h : inFrame r.ppu) : EventsAt (framePosition (dotTick r).ppu) r (dotTick r) := by
  obtain ⟨hframe, hnmi, hvblank⟩ := positionEvents_eventsAt (dotTick_staysInFrame h)
  exact ⟨hframe, hnmi, hvblank⟩

/-- The last of n + 1 ticks has the events of the position n + 1 dots on. -/
theorem dotTicks_succ_eventsAt (n : Nat) (h : inFrame r.ppu) :
    EventsAt (positionAfter (n + 1) r.ppu) (dotTicks n r) (dotTicks (n + 1) r) := by
  rw [← framePosition_dotTicks (n + 1) h, dotTicks_succ]
  exact dotTick_eventsAt (dotTicks_stayInFrame n h)

end

/-! ## What a run reports -/

/-- The position `target` is arrived at within n ticks, with no arrival at `other` after. -/
def arrivesLast (n target other : Nat) (p : PpuState) : Prop :=
  ∃ j, 1 ≤ j ∧ j ≤ n ∧ positionAfter j p = target ∧ ∀ k, j < k → k ≤ n → positionAfter k p ≠ other

section
variable {target other : Nat} {p : PpuState}

theorem not_arrives_zero : ¬ arrives 0 target p := by
  rintro ⟨j, h1, h0, -⟩
  omega

/-- An arrival is one of the last tick or one before it. -/
theorem arrives_succ (n : Nat) : arrives (n + 1) target p ↔ arrives n target p ∨ positionAfter (n + 1) p = target := by
  constructor
  · rintro ⟨j, h1, hj, e⟩
    rcases Nat.le_succ_iff.1 hj with hj | rfl
    · exact .inl ⟨j, h1, hj, e⟩
    · exact .inr e
  · rintro (⟨j, h1, hj, e⟩ | e)
    · exact ⟨j, h1, Nat.le_succ_of_le hj, e⟩
    · exact ⟨n + 1, Nat.le_add_left 1 n, le_rfl, e⟩

theorem not_arrivesLast_zero : ¬ arrivesLast 0 target other p := by
  rintro ⟨j, h1, h0, -⟩
  omega

/-- The last tick arrives at the target, or one before it did and the last keeps off the other position. -/
theorem arrivesLast_succ (n : Nat) :
    arrivesLast (n + 1) target other p ↔
      positionAfter (n + 1) p = target ∨ (arrivesLast n target other p ∧ positionAfter (n + 1) p ≠ other) := by
  constructor
  · rintro ⟨j, h1, hj, e, hoff⟩
    rcases Nat.le_succ_iff.1 hj with hj | rfl
    · exact .inr ⟨⟨j, h1, hj, e, fun k hk hkn => hoff k hk (Nat.le_succ_of_le hkn)⟩,
        hoff (n + 1) (Nat.lt_succ_of_le hj) le_rfl⟩
    · exact .inl e
  · rintro (e | ⟨⟨j, h1, hj, e, hoff⟩, hlast⟩)
    · exact ⟨n + 1, Nat.le_add_left 1 n, le_rfl, e, fun k hk hkn => by omega⟩
    · refine ⟨j, h1, Nat.le_succ_of_le hj, e, fun k hk hkn => ?_⟩
      rcases Nat.le_succ_iff.1 hkn with hkn | rfl
      · exact hoff k hk hkn
      · exact hlast

end

section
variable {r : PpuRun} (h : inFrame r.ppu)
include h

theorem dotTicks_frame (n : Nat) :
    (dotTicks n r).frame = true ↔ r.frame = true ∨ arrives n vblankStart r.ppu := by
  induction n with
  | zero => simp only [dotTicks, not_arrives_zero, or_false]
  | succ n ih =>
    rw [(dotTicks_succ_eventsAt n h).frame, ih, arrives_succ, or_assoc]

theorem dotTicks_nmi (n : Nat) :
    (dotTicks n r).nmi = true ↔
      r.nmi = true ∨ (r.ppu.ctrl.getLsbD 7 = true ∧ arrives n vblankStart r.ppu) := by
  induction n with
  | zero => simp only [dotTicks, not_arrives_zero, and_false, or_false]
  | succ n ih =>
    obtain ⟨hctrl, -⟩ := dotTicks_controls n r
    rw [(dotTicks_succ_eventsAt n h).nmi, hctrl, ih, arrives_succ, and_or_left, or_assoc]

theorem dotTicks_vblank (n : Nat) :
    (dotTicks n r).ppu.vblank = true ↔
      arrivesLast n vblankStart vblankEnd r.ppu ∨ (r.ppu.vblank = true ∧ ¬ arrives n vblankEnd r.ppu) := by
  induction n with
  | zero => simp only [dotTicks, not_arrivesLast_zero, not_arrives_zero, not_false_eq_true, and_true, false_or]
  | succ n ih =>
    rw [(dotTicks_succ_eventsAt n h).vblank, ih, arrivesLast_succ, arrives_succ, not_or, or_and_right, or_assoc, and_assoc]

end

theorem ppuRunReportsNmiAtVblank : PpuRunReportsNmiAtVblank := by
  intro c p h
  have hframe := dotTicks_frame (r := { ppu := p, nmi := false, frame := false }) h (3 * c)
  have hnmi := dotTicks_nmi (r := { ppu := p, nmi := false, frame := false }) h (3 * c)
  simp only [Bool.false_eq_true, false_or] at hframe hnmi
  exact ⟨hframe, hnmi⟩

theorem vblankFollowsThePosition : VblankFollowsThePosition := fun c _ h => dotTicks_vblank h (3 * c)

/-- Settles O37, by induction on the run's ticks: each adds its own arrival to the two reports and to the vblank flag. -/
theorem vblankAndNmi : Obligations.VblankAndNmi := ⟨ppuRunReportsNmiAtVblank, vblankFollowsThePosition⟩

end Sys2Proof.Machine
end

section
/-!
PROOFS. The APU's registers (R380 to R383, R389): each channel register by the fields of its byte, the channel enables and the
status, and the frame counter.
-/

namespace Sys2Proof.Machine
open Sys2Proof.Statements

/-! ## Periods and lengths as numbers -/

theorem toNat_concat {m n : Nat} (hi : BitVec m) (lo : BitVec n) : (hi ++ lo).toNat = hi.toNat * 2 ^ n + lo.toNat := by
  rw [BitVec.toNat_append, Nat.shiftLeft_eq, Nat.mul_comm, ← Nat.two_pow_add_eq_or_of_lt lo.isLt]

theorem toNat_setPeriodLow (v : Byte) (period : BitVec 11) :
    (setPeriodLow v period).toNat = period.toNat / 256 * 256 + v.toNat := by
  have := period.isLt
  rw [setPeriodLow, toNat_concat, toNat_field]
  omega

theorem toNat_setPeriodHigh (v : Byte) (period : BitVec 11) :
    (setPeriodHigh v period).toNat = period.toNat % 256 + 256 * bitsOf v 0 3 := by
  rw [setPeriodHigh, toNat_concat, toNat_field, toNat_field, bitsOf]
  omega

theorem lengthRow_lengthOf (i : BitVec 5) : lengthRow[i.toNat]? = some (lengthOf i).toNat := by
  revert i
  decide

/-- The length load is R389's: from the table where the channel is enabled. -/
theorem loadLength_lengthAfter (enabled : Bool) (v len : Byte) :
    LengthAfter enabled v len (loadLength enabled (v.extractLsb' 3 5) len) := by
  refine ⟨fun he => ?_, fun he => by rw [loadLength, he, if_neg Bool.false_ne_true]⟩
  rw [loadLength, he, if_pos rfl, bitsOf, ← toNat_field, lengthRow_lengthOf]

/-! ## The channels' registers -/

theorem writeEnvelope_eq (v : Byte) (e : Envelope) :
    writeEnvelope v e = { e with halt := pBit 5 v, constVol := pBit 4 v, vol := (writeEnvelope v e).vol } := by
  rw [writeEnvelope, getLsbD_eq_pBit, getLsbD_eq_pBit]

theorem writePulse_pulseWrite (r : Nat) (v : Byte) (p : PulseState) : PulseWrite r v p (writePulse r v p) := by
  match r with
  | 0 => exact ⟨by rw [writePulse, ← writeEnvelope_eq], toNat_field v 6 2, toNat_field v 0 4⟩
  | 1 => exact ⟨by rw [writePulse, getLsbD_eq_pBit, getLsbD_eq_pBit], toNat_field v 4 3, toNat_field v 0 3⟩
  | 2 => exact ⟨rfl, toNat_setPeriodLow v p.period⟩
  | _ + 3 => exact ⟨rfl, toNat_setPeriodHigh v p.period, loadLength_lengthAfter p.enabled v p.len⟩

theorem writeTriangle_triangleWrite (r : Nat) (v : Byte) (t : TriangleState) : TriangleWrite r v t (writeTriangle r v t) := by
  match r with
  | 0 => exact ⟨by rw [writeTriangle, getLsbD_eq_pBit], toNat_field v 0 7⟩
  | 1 => exact rfl
  | 2 => exact ⟨rfl, toNat_setPeriodLow v t.period⟩
  | _ + 3 => exact ⟨rfl, toNat_setPeriodHigh v t.period, loadLength_lengthAfter t.enabled v t.len⟩

theorem writeNoise_noiseWrite (r : Nat) (v : Byte) (n : NoiseState) : NoiseWrite r v n (writeNoise r v n) := by
  match r with
  | 0 => exact ⟨by rw [writeNoise, ← writeEnvelope_eq], toNat_field v 0 4⟩
  | 1 => exact rfl
  | 2 => exact ⟨by rw [writeNoise, getLsbD_eq_pBit], toNat_field v 0 4⟩
  | _ + 3 => exact ⟨rfl, loadLength_lengthAfter n.enabled v n.len⟩

section
variable {r : Nat} (h : r < 4) (v : Byte) (s : ApuState)
include h

theorem writeChannel_pulse1 : writeChannel r v s = { s with pulse1 := writePulse r v s.pulse1 } := if_pos h

theorem writeChannel_pulse2 : writeChannel (4 + r) v s = { s with pulse2 := writePulse r v s.pulse2 } := by
  rw [writeChannel, if_neg (by omega), if_pos (by omega), Nat.add_sub_cancel_left]

theorem writeChannel_triangle : writeChannel (8 + r) v s = { s with triangle := writeTriangle r v s.triangle } := by
  rw [writeChannel, if_neg (by omega), if_neg (by omega), if_pos (by omega), Nat.add_sub_cancel_left]

theorem writeChannel_noise : writeChannel (12 + r) v s = { s with noise := writeNoise r v s.noise } := by
  rw [writeChannel, if_neg (by omega), if_neg (by omega), if_neg (by omega), if_pos (by omega), Nat.add_sub_cancel_left]

end

/-- The DMC's registers are ignored (R413). -/
theorem writeChannel_dmc (r : Nat) (v : Byte) (s : ApuState) : writeChannel (16 + r) v s = s := by
  rw [writeChannel, if_neg (by omega), if_neg (by omega), if_neg (by omega), if_neg (by omega)]

/-- Settles O33: a write at each channel's offset writes that channel's record alone, register by register as R380 says. -/
theorem apuChannelWrites : Obligations.ApuChannelWrites := by
  intro s v r h
  rw [writeChannel_pulse1 h, writeChannel_pulse2 h, writeChannel_triangle h, writeChannel_noise h]
  exact ⟨⟨writePulse_pulseWrite r v s.pulse1, rfl⟩, ⟨writePulse_pulseWrite r v s.pulse2, rfl⟩,
    ⟨writeTriangle_triangleWrite r v s.triangle, rfl⟩, ⟨writeNoise_noiseWrite r v s.noise, rfl⟩, writeChannel_dmc r v s⟩

/-! ## The control registers -/

/-- Four bits written into a byte of zeros, as a number. -/
theorem toNat_fourBits (b0 b1 b2 b3 : Bool) :
    (setBit (setBit (setBit (setBit 0 0 b0) 1 b1) 2 b2) 3 b3).toNat =
      b0.toNat + 2 * b1.toNat + 4 * b2.toNat + 8 * b3.toNat := by
  revert b0 b1 b2 b3
  decide

theorem toNat_bne_zero (len : Byte) : (len != 0).toNat = if len = 0 then 0 else 1 := by
  by_cases h : len = 0
  · rw [h]; rfl
  · rw [if_neg h, bne_iff_ne.2 h]; rfl

theorem apuEnablesAndStatus : ApuEnablesAndStatus := by
  intro s v
  refine ⟨rfl, ?_⟩
  rw [apuStatus, toNat_fourBits, toNat_bne_zero, toNat_bne_zero, toNat_bne_zero, toNat_bne_zero]
  simp only [mul_ite, mul_zero, mul_one]

/-- In 5-step mode the reset clears the divider and the step only (R387). -/
theorem frameReset_of_fiveStep {s : ApuState} (h : s.fsMode = true) : frameReset s = { s with fsDivider := 0, fsStep := 0 } :=
  if_pos h

/-- In 4-step mode the reset also runs one quarter and one half frame (R387). -/
theorem frameReset_of_fourStep {s : ApuState} (h : s.fsMode = false) :
    frameReset s = halfFrame (quarterFrame { s with fsDivider := 0, fsStep := 0 }) :=
  if_neg (Bool.eq_false_iff.1 h)

theorem frameCounterWrite : FrameCounterWrite := by
  intro s v delay
  simp only [writeFrameCounter, getLsbD_eq_pBit]
  exact ⟨fun h => if_neg (Nat.ne_of_gt h), rfl, frameReset_of_fiveStep, frameReset_of_fourStep⟩

/-- Settles O34: the enables and the frame counter are records written field by field; the status is four bits as a number. -/
theorem apuControlRegisters : Obligations.ApuControlRegisters := ⟨apuEnablesAndStatus, frameCounterWrite⟩

end Sys2Proof.Machine
end

section
/-!
PROOFS. The APU's units and timers (R390 to R409): the envelope, length, linear and sweep clocks, the three timers with their
sequencers, and the channel outputs.
-/

namespace Sys2Proof.Machine
open Sys2Proof.Statements

/-! ## Counting down -/

/-- A counter above 0 goes down by 1. -/
theorem toNat_sub_one {n : Nat} {x : BitVec n} (h : x ≠ 0) : (x - 1).toNat = x.toNat - 1 := by
  have hpos : x.toNat ≠ 0 := fun e => h (BitVec.eq_of_toNat_eq (e.trans BitVec.toNat_zero.symm))
  have hn : n ≠ 0 := fun e => h (by subst e; exact Subsingleton.elim _ _)
  have hone : (1 : BitVec n).toNat = 1 := BitVec.toNat_one (Nat.pos_of_ne_zero hn)
  rw [BitVec.toNat_sub_of_le (BitVec.le_def.2 (hone ▸ Nat.one_le_iff_ne_zero.2 hpos)), hone]

/-- A counter that stops at 0. -/
theorem toNat_countDown {n : Nat} (x : BitVec n) : (if x ≠ 0 then x - 1 else x).toNat = x.toNat - 1 := by
  split
  · exact toNat_sub_one ‹_›
  · next h => rw [not_not.1 h]; exact BitVec.toNat_zero

theorem toNat_pos {n : Nat} {x : BitVec n} : 0 < x.toNat ↔ x ≠ 0 := by
  rw [Nat.pos_iff_ne_zero, ← BitVec.toNat_ne_iff_ne (n := n), BitVec.ofNat_eq_ofNat, BitVec.toNat_ofNat, Nat.zero_mod]

/-! ## The envelope, length and linear clocks -/

theorem envVolume_le (e : Envelope) : envVolume e ≤ 15 := by
  have := e.vol.isLt
  have := e.decay.isLt
  rw [envVolume]
  split <;> omega

theorem envelopeClock : EnvelopeClock := by
  intro e
  refine ⟨fun hs => ?_, fun hs h0 => ⟨(clockEnvelope e).decay, ?_, ?_⟩, fun hs hpos => ⟨e.divider - 1, ?_, ?_⟩, rfl,
    envVolume_le e⟩
  · rw [clockEnvelope, if_pos hs]
  · rw [clockEnvelope, if_neg (Bool.eq_false_iff.1 hs), if_pos h0]
  · rw [clockEnvelope, if_neg (Bool.eq_false_iff.1 hs), if_pos h0]
    simp only [toNat_pos]
    split
    · exact toNat_sub_one ‹_›
    · next h =>
      rw [not_not.1 h]
      split <;> rfl
  · rw [clockEnvelope, if_neg (Bool.eq_false_iff.1 hs), if_neg (toNat_pos.1 hpos)]
  · exact toNat_sub_one (toNat_pos.1 hpos)

theorem toNat_clockLength (halt : Bool) (len : Byte) :
    (clockLength halt len).toNat = if halt then len.toNat else len.toNat - 1 := by
  cases halt with
  | true => rw [clockLength, if_neg (by simp), if_pos rfl]
  | false =>
    simp only [clockLength, and_true]
    exact toNat_countDown len

theorem lengthAndLinearClocks : LengthAndLinearClocks := by
  refine ⟨toNat_clockLength, fun t => ⟨?_, ?_⟩⟩
  · cases hc : t.control <;> simp [clockLinear, hc]
  · simp only [clockLinear]
    split
    · rfl
    · exact toNat_countDown t.lin

/-! ## The sweep -/

section
variable (isPulse1 : Bool) (p : PulseState)

theorem sweepTarget_eq_targetOf : sweepTarget isPulse1 p = targetOf isPulse1 p := by
  simp only [sweepTarget, targetOf, BitVec.toNat_ushiftRight, Nat.shiftRight_eq_div_pow]
  cases p.sweepNeg <;> cases isPulse1 <;> simp

theorem pulseMuted_iff : pulseMuted isPulse1 p = true ↔ mutedAt isPulse1 p := by
  rw [pulseMuted, Bool.or_eq_true, decide_eq_true_iff, decide_eq_true_iff, sweepTarget_eq_targetOf, mutedAt, gt_iff_lt]

/-- Where the sweep writes the period (R399). -/
def SweepWrites : Prop := p.sweepDivider = 0 ∧ p.sweepEn = true ∧ p.sweepShift ≠ 0 ∧ ¬ mutedAt isPulse1 p

/-- Where the sweep's divider reloads (R399). -/
def SweepReloads : Prop := p.sweepDivider = 0 ∨ p.sweepReload = true

/-- The test of the sweep clock is R399's. -/
theorem sweepWrites_iff :
    (p.sweepDivider == 0 && p.sweepEn && p.sweepShift != 0 && !pulseMuted isPulse1 p) = true ↔ SweepWrites isPulse1 p := by
  rw [SweepWrites, ← pulseMuted_iff, Bool.not_eq_true]
  simp only [Bool.and_eq_true, beq_iff_eq, bne_iff_ne, Bool.not_eq_true', and_assoc]

theorem sweepReloads_iff : (p.sweepDivider == 0 || p.sweepReload) = true ↔ SweepReloads p := by
  rw [SweepReloads, Bool.or_eq_true, beq_iff_eq]

variable {isPulse1 p}

theorem clockSweep_period_of_writes (h : SweepWrites isPulse1 p) :
    ((clockSweep isPulse1 p).period.toNat : Int) = max (targetOf isPulse1 p) 0 := by
  have hp : (clockSweep isPulse1 p).period = BitVec.ofNat 11 (sweepTarget isPulse1 p).toNat :=
    if_pos ((sweepWrites_iff isPulse1 p).2 h)
  obtain ⟨-, -, -, hmuted⟩ := h
  rw [mutedAt] at hmuted
  rw [hp, BitVec.toNat_ofNat, sweepTarget_eq_targetOf, Nat.mod_eq_of_lt (by omega)]
  omega

theorem clockSweep_period_of_not (h : ¬ SweepWrites isPulse1 p) : (clockSweep isPulse1 p).period = p.period :=
  if_neg (mt (sweepWrites_iff isPulse1 p).1 h)

theorem clockSweep_divider_of_reloads (h : SweepReloads p) : (clockSweep isPulse1 p).sweepDivider = p.sweepPeriod :=
  if_pos ((sweepReloads_iff p).2 h)

theorem clockSweep_divider_of_not (h : ¬ SweepReloads p) :
    (clockSweep isPulse1 p).sweepDivider.toNat = p.sweepDivider.toNat - 1 := by
  have hd : (clockSweep isPulse1 p).sweepDivider = p.sweepDivider - 1 := if_neg (mt (sweepReloads_iff p).1 h)
  rw [hd, toNat_sub_one fun e => h (.inl e)]

/-- The reload flag is clear after the sweep clock: where nothing reloads it was clear. -/
theorem clockSweep_reload : (clockSweep isPulse1 p).sweepReload = false := by
  by_cases h : SweepReloads p
  · exact if_pos ((sweepReloads_iff p).2 h)
  · exact (if_neg (mt (sweepReloads_iff p).1 h)).trans (Bool.eq_false_iff.2 fun e => h (.inr e))

end

theorem sweepClock : SweepClock := fun isPulse1 p =>
  ⟨sweepTarget_eq_targetOf isPulse1 p, pulseMuted_iff isPulse1 p,
    ⟨(clockSweep isPulse1 p).period, (clockSweep isPulse1 p).sweepDivider,
      by rw [← clockSweep_reload (isPulse1 := isPulse1) (p := p)]; rfl⟩,
    clockSweep_period_of_writes, clockSweep_period_of_not, clockSweep_divider_of_reloads, clockSweep_divider_of_not⟩

/-- Settles O38: each clock's branches are the rule's cases; a counter above 0 goes down by 1 as a number. -/
theorem apuUnitClocks : Obligations.ApuUnitClocks := ⟨envelopeClock, lengthAndLinearClocks, sweepClock⟩

/-! ## The timers -/

theorem noisePeriods_noisePeriod (i : BitVec 4) : noisePeriods[i.toNat]? = some (noisePeriod i) := by
  revert i
  decide

/-- The shift register moves right (R408). -/
theorem stepLfsr_low (mode : Bool) (l : BitVec 15) {k : Nat} (hk : k < 14) :
    (stepLfsr mode l).getLsbD k = l.getLsbD (k + 1) := by
  rw [stepLfsr, BitVec.getLsbD_or, BitVec.getLsbD_ushiftRight, BitVec.getLsbD_shiftLeft, Nat.add_comm]
  simp [hk]

/-- Bit 0 and the tap feed its top bit (R408). -/
theorem stepLfsr_top (mode : Bool) (l : BitVec 15) :
    (stepLfsr mode l).getLsbD 14 = (l.getLsbD 0 != l.getLsbD (if mode then 6 else 1)) := by
  cases mode <;> simp [stepLfsr]

/-- Settles O39: the timer's test is the case; the triangle's second test is whether its sequencer moves. -/
theorem timersAndSequencers : Obligations.TimersAndSequencers := by
  refine ⟨fun p => ⟨fun h => if_pos h, fun h => if_neg h⟩, fun t => ⟨fun h hc => ?_, fun h hc => ?_, fun h => if_neg h⟩,
    fun n => ⟨fun h => ?_, fun h => if_neg h⟩⟩
  · rw [toNat_pos, toNat_pos] at hc
    rw [clockTriangleTimer, if_pos h, if_pos hc]
  · rw [toNat_pos, toNat_pos] at hc
    rw [clockTriangleTimer, if_pos h, if_neg hc]
  · exact ⟨stepLfsr n.mode n.lfsr, noisePeriod n.periodIndex, noisePeriods_noisePeriod _, if_pos h,
      fun _ => stepLfsr_low n.mode n.lfsr, stepLfsr_top n.mode n.lfsr⟩

/-! ## The outputs -/

theorem dutyTable_eq (d : BitVec 2) (pos : BitVec 3) :
    (dutyTable.getD d.toNat []).getD pos.toNat 0 = (dutyHigh d.toNat pos.toNat).toNat := by
  revert d pos
  decide

theorem triangleTable_eq (pos : BitVec 5) :
    triangleTable.getD pos.toNat 0 = if pos.toNat < 16 then 15 - pos.toNat else pos.toNat - 16 := by
  revert pos
  decide

section
variable {isPulse1 : Bool} {p : PulseState} {t : TriangleState} {n : NoiseState}

theorem pulseOut_of_silent (h : p.len = 0 ∨ mutedAt isPulse1 p) : pulseOut isPulse1 p = 0 :=
  if_pos (h.imp_right (pulseMuted_iff isPulse1 p).2)

theorem pulseOut_of_sounding (h : ¬ (p.len = 0 ∨ mutedAt isPulse1 p)) :
    pulseOut isPulse1 p = if dutyHigh p.duty.toNat p.seqPos.toNat then envVolume p.env else 0 := by
  rw [pulseOut, if_neg (mt (Or.imp_right (pulseMuted_iff isPulse1 p).1) h), dutyTable_eq]
  cases dutyHigh p.duty.toNat p.seqPos.toNat
  · exact Nat.zero_mul _
  · exact Nat.one_mul _

theorem pulseOut_le (isPulse1 : Bool) (p : PulseState) : pulseOut isPulse1 p ≤ 15 := by
  by_cases h : p.len = 0 ∨ mutedAt isPulse1 p
  · rw [pulseOut_of_silent h]; decide
  · rw [pulseOut_of_sounding h]
    split
    · exact envVolume_le p.env
    · decide

theorem triangleOut_of_sounding (h : ¬ (t.len = 0 ∨ t.lin = 0 ∨ t.period.toNat < 5)) :
    triangleOut t = if t.seqPos.toNat < 16 then 15 - t.seqPos.toNat else t.seqPos.toNat - 16 := by
  rw [triangleOut, if_neg h, triangleTable_eq]

theorem noiseOut_le (n : NoiseState) : noiseOut n ≤ 15 := by
  rw [noiseOut]
  split
  · decide
  · exact envVolume_le n.env

end

/-- Settles O40: the silences are the outputs' own tests; the duty and triangle tables are closed forms; a volume is at most 15. -/
theorem channelOutputs : Obligations.ChannelOutputs :=
  ⟨fun isPulse1 p => ⟨pulseOut_of_silent, pulseOut_of_sounding, pulseOut_le isPulse1 p⟩,
    fun _ => ⟨fun h => if_pos h, triangleOut_of_sounding⟩,
    fun n => ⟨fun h => if_pos h, fun h => if_neg h, noiseOut_le n⟩⟩

end Sys2Proof.Machine
end

section
/-!
PROOFS. The frame sequencer (R384 to R388): a tick by its schedule, one CPU cycle in order, and, by induction on a run, where the
sequencer stands after n cycles and how many of them did each action.
-/

namespace Sys2Proof.Machine
open Sys2Proof.Statements

/-! ## One tick -/

/-- The schedule as a table is the model's two tests (R386). -/
theorem scheduled_eq {m : Bool} {k : Nat} (h : k < frameSteps m) : scheduled m k = (quarterAt m k, halfAt m k) := by
  have table : ∀ m, ∀ k < frameSteps m, scheduled m k = (quarterAt m k, halfAt m k) := by decide
  exact table m k h

theorem frameTick_eq_afterActions (s : ApuState) :
    frameTick s = afterActions (scheduled s.fsMode (s.fsStep % frameSteps s.fsMode))
      ((s.fsStep % frameSteps s.fsMode + 1) % frameSteps s.fsMode) s := by
  obtain ⟨hpos, -⟩ := frameSteps_pos s.fsMode
  rw [scheduled_eq (Nat.mod_lt _ hpos)]
  rfl

/-- Settles O41: a tick's two tests are the schedule's row of its step; what each action clocks is its definition. -/
theorem frameSchedule : Obligations.FrameSchedule := by
  refine ⟨fun s hs => ⟨fun hm => ?_, fun hm => ?_⟩, fun _ => rfl, fun _ => rfl⟩
  · rw [frameTick_eq_afterActions, hm]
    rfl
  · rw [frameTick_eq_afterActions, hm, frameSteps, if_pos rfl, Nat.mod_eq_of_lt hs]

/-! ## One CPU cycle -/

section
variable {s : ApuState}

theorem clockCountdown_of_zero (h : s.resetCountdown = 0) : clockCountdown s = s := if_pos h

theorem clockCountdown_of_one (h : s.resetCountdown = 1) : clockCountdown s = frameReset { s with resetCountdown := 0 } := by
  rw [clockCountdown, if_neg (by omega), if_pos h]

theorem clockCountdown_of_gt_one (h : 1 < s.resetCountdown) :
    clockCountdown s = { s with resetCountdown := s.resetCountdown - 1 } := by
  rw [clockCountdown, if_neg (by omega), if_neg (by omega)]

theorem clockTimers_of_even (h : s.parity = false) :
    clockTimers s = { s with triangle := clockTriangleTimer s.triangle, parity := true } := by
  simp only [clockTimers, h, Bool.not_false, if_true]

theorem clockTimers_of_odd (h : s.parity = true) :
    clockTimers s = { s with
      triangle := clockTriangleTimer s.triangle, parity := false
      pulse1 := clockPulseTimer s.pulse1, pulse2 := clockPulseTimer s.pulse2, noise := clockNoiseTimer s.noise } := by
  simp only [clockTimers, h, Bool.not_true, Bool.false_eq_true, if_false]

end

theorem cpuCycleInOrder : CpuCycleInOrder := fun s =>
  ⟨clockCountdown s, clockFrameDivider (clockCountdown s), clockCountdown_of_zero, clockCountdown_of_one,
    clockCountdown_of_gt_one, fun h => if_pos h, fun h => if_neg h, clockTimers_of_even, clockTimers_of_odd, rfl,
    fun _ => rfl⟩

/-- The countdown's clock keeps the mode and the inhibit bit and counts down to 0. -/
theorem clockCountdown_keeps (s : ApuState) :
    (clockCountdown s).fsMode = s.fsMode ∧ (clockCountdown s).irqInhibit = s.irqInhibit ∧
      (clockCountdown s).resetCountdown = s.resetCountdown - 1 := by
  by_cases h0 : s.resetCountdown = 0
  · rw [clockCountdown_of_zero h0, h0]
    exact ⟨rfl, rfl, rfl⟩
  · by_cases h1 : s.resetCountdown = 1
    · obtain ⟨hm, hi, -, hc, -⟩ := frameReset_keeps { s with resetCountdown := 0 }
      rw [clockCountdown_of_one h1, h1]
      exact ⟨hm, hi, hc⟩
    · rw [clockCountdown_of_gt_one (by omega)]
      exact ⟨rfl, rfl, rfl⟩

/-- Where no countdown expires, its clock leaves the divider and the step alone. -/
theorem clockCountdown_quiet {s : ApuState} (h : s.resetCountdown ≠ 1) :
    (clockCountdown s).fsDivider = s.fsDivider ∧ (clockCountdown s).fsStep = s.fsStep := by
  by_cases h0 : s.resetCountdown = 0
  · rw [clockCountdown_of_zero h0]
    exact ⟨rfl, rfl⟩
  · rw [clockCountdown_of_gt_one (by omega)]
    exact ⟨rfl, rfl⟩

/-- The step after a cycle: moved on where the divider makes its 7457th count. -/
def stepAfter (s : ApuState) : Nat :=
  if s.fsDivider + 1 = 7457 then (s.fsStep % frameSteps s.fsMode + 1) % frameSteps s.fsMode else s.fsStep

/-- The divider's clock counts modulo 7457 and moves the step on at a tick. -/
theorem clockFrameDivider_keeps (s : ApuState) :
    (clockFrameDivider s).fsMode = s.fsMode ∧ (clockFrameDivider s).irqInhibit = s.irqInhibit ∧
      (clockFrameDivider s).resetCountdown = s.resetCountdown ∧
      (clockFrameDivider s).fsDivider = (if s.fsDivider + 1 = 7457 then 0 else s.fsDivider + 1) ∧
      (clockFrameDivider s).fsStep = stepAfter s := by
  obtain ⟨hm, hi, hd, hc, -, hs⟩ := frameTick_keeps { s with fsDivider := 0 }
  rw [clockFrameDivider, framePeriod, stepAfter]
  split
  · exact ⟨hm, hi, hc, hd, hs⟩
  · exact ⟨rfl, rfl, rfl, rfl, rfl⟩

/-- Every cycle keeps the mode and the inhibit bit and counts the countdown down. -/
theorem apuCycle_keeps (s : ApuState) :
    (apuCycle s).fsMode = s.fsMode ∧ (apuCycle s).irqInhibit = s.irqInhibit ∧
      (apuCycle s).resetCountdown = s.resetCountdown - 1 := by
  obtain ⟨hm3, hi3, -, -, hc3, -⟩ := clockTimers_keeps (clockFrameDivider (clockCountdown s))
  obtain ⟨hm2, hi2, hc2, -, -⟩ := clockFrameDivider_keeps (clockCountdown s)
  obtain ⟨hm1, hi1, hc1⟩ := clockCountdown_keeps s
  exact ⟨hm3.trans (hm2.trans hm1), hi3.trans (hi2.trans hi1), hc3.trans (hc2.trans hc1)⟩

/-- A cycle in which no countdown expires. -/
theorem apuCycle_quiet {s : ApuState} (h : s.resetCountdown ≠ 1) :
    (apuCycle s).fsDivider = (if s.fsDivider + 1 = 7457 then 0 else s.fsDivider + 1) ∧
      (apuCycle s).fsStep = stepAfter s := by
  obtain ⟨-, -, hd3, hs3, -, -⟩ := clockTimers_keeps (clockFrameDivider (clockCountdown s))
  obtain ⟨-, -, -, hd2, hs2⟩ := clockFrameDivider_keeps (clockCountdown s)
  obtain ⟨hm1, -, -⟩ := clockCountdown_keeps s
  obtain ⟨hd1, hs1⟩ := clockCountdown_quiet h
  rw [stepAfter, hd1, hs1, hm1] at hs2
  rw [hd1] at hd2
  exact ⟨hd3.trans hd2, hs3.trans hs2⟩

/-! ## A run of cycles -/

/-- Every run keeps the mode and the inhibit bit and counts the countdown down. -/
theorem apuRun_sequencer (n : Nat) (s : ApuState) :
    (apuRun n s).fsMode = s.fsMode ∧ (apuRun n s).irqInhibit = s.irqInhibit ∧
      (apuRun n s).resetCountdown = s.resetCountdown - n := by
  induction n with
  | zero => exact ⟨rfl, rfl, rfl⟩
  | succ n ih =>
    obtain ⟨hm, hi, hc⟩ := ih
    obtain ⟨hm', hi', hc'⟩ := apuCycle_keeps (apuRun n s)
    rw [apuRun_succ]
    exact ⟨hm'.trans hm, hi'.trans hi, hc'.trans (by rw [hc, Nat.sub_sub])⟩

/-- The divider and the step after n cycles in which no countdown expires (R385). -/
theorem apuRun_quiet {n : Nat} {s : ApuState} (hc : s.resetCountdown = 0 ∨ n < s.resetCountdown) (hd : s.fsDivider < 7457)
    (hs : s.fsStep < if s.fsMode then 5 else 4) :
    (apuRun n s).fsDivider = (s.fsDivider + n) % 7457 ∧
      (apuRun n s).fsStep = (s.fsStep + ticksIn (s.fsDivider + n)) % if s.fsMode then 5 else 4 := by
  induction n with
  | zero =>
    rw [ticksIn, Nat.add_zero, Nat.div_eq_of_lt hd, Nat.mod_eq_of_lt hd, Nat.add_zero, Nat.mod_eq_of_lt hs]
    exact ⟨rfl, rfl⟩
  | succ n ih =>
    obtain ⟨ihd, ihs⟩ := ih (by omega)
    obtain ⟨hmode, -, hcount⟩ := apuRun_sequencer n s
    obtain ⟨hd', hs'⟩ := apuCycle_quiet (s := apuRun n s) (by omega)
    rw [apuRun_succ, hd', hs', stepAfter, ihd, ihs, hmode, ticksIn, ticksIn]
    cases s.fsMode <;> simp only [frameSteps, Bool.false_eq_true, if_true, if_false] at hs ⊢ <;> split <;> omega

theorem apuRun_parity_eq (n : Nat) (s : ApuState) : (apuRun n s).parity = (s.parity ^^ decide (n % 2 = 1)) := by
  induction n with
  | zero => exact (Bool.xor_false _).symm
  | succ n ih =>
    have hflip : decide ((n + 1) % 2 = 1) = !decide (n % 2 = 1) := by
      rw [← decide_not, decide_eq_decide]
      omega
    rw [apuRun_succ, apuCycle_parity, ih, hflip, Bool.xor_not]

/-! ## Counting actions -/

/-- Whether cycle n of a run does the action. -/
def actsAt (act : Bool × Bool → Bool) (n : Nat) (s : ApuState) : Bool :=
  decide ((apuRun n s).fsDivider = 7456) && act (scheduled (apuRun n s).fsMode (apuRun n s).fsStep)

theorem actionCycles_succ (act : Bool × Bool → Bool) (n : Nat) (s : ApuState) :
    actionCycles act (n + 1) s = actionCycles act n s + (actsAt act n s).toNat := by
  simp only [actionCycles, List.range_succ, List.filter_append, List.length_append]
  congr 1
  change (List.filter (actsAt act · s) [n]).length = _
  cases h : actsAt act n s <;> simp [h]

section
variable {s : ApuState} (hc : s.resetCountdown = 0) (hd : s.fsDivider = 0) (hs : s.fsStep = 0)
include hc hd hs

/-- From a divider and a step of 0, cycle n does the action where it ends a divider's round and the step is one of the action's. -/
theorem actsAt_eq (act : Bool × Bool → Bool) (n : Nat) :
    actsAt act n s = (decide (n % 7457 = 7456) && act (scheduled s.fsMode (ticksIn n % if s.fsMode then 5 else 4))) := by
  obtain ⟨hd', hs'⟩ := apuRun_quiet (n := n) (.inl hc) (by omega) (by rw [hs]; split <;> decide)
  obtain ⟨hm, -, -⟩ := apuRun_sequencer n s
  rw [actsAt, hd', hs', hm, hd, hs, Nat.zero_add, Nat.zero_add]

/-- What counts the action step by step counts the cycles that do it, tick by tick. -/
theorem actionCycles_eq {act : Bool × Bool → Bool} {count : Nat → Nat} (h0 : count 0 = 0)
    (hcount : ∀ k, count (k + 1) = count k + (act (scheduled s.fsMode (k % if s.fsMode then 5 else 4))).toNat) (n : Nat) :
    actionCycles act n s = count (ticksIn n) := by
  induction n with
  | zero => exact h0.symm
  | succ n ih =>
    rw [actionCycles_succ, ih, actsAt_eq hc hd hs]
    by_cases htick : n % 7457 = 7456
    · have hnext : ticksIn (n + 1) = ticksIn n + 1 := by rw [ticksIn, ticksIn]; omega
      rw [hnext, hcount, decide_eq_true htick, Bool.true_and]
    · have hsame : ticksIn (n + 1) = ticksIn n := by rw [ticksIn, ticksIn]; omega
      rw [hsame, decide_eq_false htick, Bool.false_and, Bool.toNat_false, Nat.add_zero]

end

/-- The schedule in 4-step mode: a quarter frame at each step, a half frame at each second. -/
theorem scheduled_fourStep {k : Nat} (h : k < 4) :
    (scheduled false k).1.toNat = 1 ∧ (scheduled false k).2.toNat = k % 2 := by
  have table : ∀ k < 4, (scheduled false k).1.toNat = 1 ∧ (scheduled false k).2.toNat = k % 2 := by decide
  exact table k h

/-- The schedule in 5-step mode: a quarter frame at each step but 3, a half frame at steps 1 and 4. -/
theorem scheduled_fiveStep {k : Nat} (h : k < 5) :
    (scheduled true k).1.toNat = (if k = 3 then 0 else 1) ∧
      (scheduled true k).2.toNat = (if k = 1 ∨ k = 4 then 1 else 0) := by
  have table : ∀ k < 5, (scheduled true k).1.toNat = (if k = 3 then 0 else 1) ∧
      (scheduled true k).2.toNat = (if k = 1 ∨ k = 4 then 1 else 0) := by decide
  exact table k h

theorem frameSequencerRate : FrameSequencerRate := by
  refine ⟨fun n s hc hd hs => ?_, fun n s hc hd hs => ⟨fun hm => ?_, fun hm => ?_⟩⟩
  · obtain ⟨hdiv, hstep⟩ := apuRun_quiet hc hd hs
    obtain ⟨hm, hi, hcount⟩ := apuRun_sequencer n s
    exact ⟨hdiv, apuRun_parity_eq n s, hcount, hm, hi, hstep⟩
  · refine ⟨actionCycles_eq (count := id) hc hd hs rfl (fun k => ?_) n,
      actionCycles_eq (count := (· / 2)) hc hd hs rfl (fun k => ?_) n⟩
    all_goals
      obtain ⟨hq, hh⟩ := scheduled_fourStep (Nat.mod_lt k (by decide))
      simp only [hm, Bool.false_eq_true, if_false, hq, hh]
    · rfl
    · omega
  · refine ⟨actionCycles_eq (count := fun k => 4 * (k / 5) + min (k % 5) 3) hc hd hs rfl (fun k => ?_) n,
      actionCycles_eq (count := fun k => 2 * (k / 5) + if 2 ≤ k % 5 then 1 else 0) hc hd hs rfl (fun k => ?_) n⟩
    all_goals
      obtain ⟨hq, hh⟩ := scheduled_fiveStep (Nat.mod_lt k (by decide))
      simp only [hm, if_true, hq, hh]
    · split <;> omega
    · split_ifs <;> omega

/-! ## The countdown -/

/-- A countdown that expires in this cycle runs the frame reset first (R383, R384). -/
theorem apuCycle_expiry {s : ApuState} (h : s.resetCountdown = 1) :
    apuCycle s = apuCycle (frameReset { s with resetCountdown := 0 }) := by
  obtain ⟨-, -, -, hc, -⟩ := frameReset_keeps { s with resetCountdown := 0 }
  rw [apuCycle, apuCycle, clockCountdown_of_one h, clockCountdown_of_zero hc]

theorem countdownRunsTheReset : CountdownRunsTheReset := by
  refine ⟨fun d s h => ?_, fun s => ⟨frameReset_of_fiveStep, frameReset_of_fourStep⟩⟩
  have hcount : ∀ n, (apuRun n s).resetCountdown = d + 1 - n := fun n => by
    obtain ⟨-, -, hc⟩ := apuRun_sequencer n s
    rw [hc, h]
  have hlast : apuRun (d + 1) s = apuCycle (frameReset { apuRun d s with resetCountdown := 0 }) := by
    rw [apuRun_succ, apuCycle_expiry (by rw [hcount, Nat.add_sub_cancel_left])]
  obtain ⟨-, -, hd, hc, -, hs⟩ := frameReset_keeps { apuRun d s with resetCountdown := 0 }
  obtain ⟨hdiv, hstep⟩ := apuCycle_quiet (s := frameReset { apuRun d s with resetCountdown := 0 }) (hc.trans_ne Nat.zero_ne_one)
  rw [hd] at hdiv
  rw [stepAfter, hd, hs] at hstep
  exact ⟨hlast, by rw [hcount, Nat.sub_self], by rw [hlast, hdiv]; rfl, by rw [hlast, hstep]; rfl, fun n _ => hcount n⟩

/-- Settles O42, by induction on the run for the sequencer's position, and tick by tick for the counts of its actions. -/
theorem frameSequencerTiming : Obligations.FrameSequencerTiming :=
  ⟨cpuCycleInOrder, frameSequencerRate, countdownRunsTheReset⟩

end Sys2Proof.Machine
end

section
/-!
PROOFS. The mixer's rounding (R410): with the exponent that the model takes, the scaled fraction has p bits before the point, so its
nearest integer is the significand; where that integer is `2 ^ p`, halving it keeps it nearest.
-/

namespace Sys2Proof.Machine
open Sys2Proof.Statements

/-! ## The scaled fraction -/

/-- The numerator of `num / den / 2 ^ e`. -/
def scaledNum (num : Nat) (e : Int) : Nat := num * 2 ^ (-e).toNat

/-- The denominator of `num / den / 2 ^ e`. -/
def scaledDen (den : Nat) (e : Int) : Nat := den * 2 ^ e.toNat

theorem scaledDen_pos {den : Nat} (h : 0 < den) (e : Int) : 0 < scaledDen den e := Nat.mul_pos h (Nat.two_pow_pos _)

/-- A step of the exponent halves the fraction: its numerator is half as large, or its denominator twice. -/
theorem scaled_succ (num den : Nat) (e : Int) :
    (scaledNum num e = 2 * scaledNum num (e + 1) ∧ scaledDen den (e + 1) = scaledDen den e) ∨
      (scaledNum num (e + 1) = scaledNum num e ∧ scaledDen den (e + 1) = 2 * scaledDen den e) := by
  simp only [scaledNum, scaledDen]
  by_cases h : e < 0
  · have ha : (-e).toNat = (-(e + 1)).toNat + 1 := by omega
    have hb : (e + 1).toNat = e.toNat := by omega
    exact .inl ⟨by rw [ha, Nat.pow_succ']; ring, by rw [hb]⟩
  · have ha : (-(e + 1)).toNat = (-e).toNat := by omega
    have hb : (e + 1).toNat = e.toNat + 1 := by omega
    exact .inr ⟨by rw [ha], by rw [hb, Nat.pow_succ']; ring⟩

/-! ## The exponent -/

theorem two_pow_eq {p : Nat} (hp : 2 ≤ p) : 2 ^ p = 2 * 2 ^ (p - 1) := by
  rw [← Nat.pow_succ', Nat.succ_eq_add_one, Nat.sub_add_cancel (by omega)]

/-- The integer part of the scaled fraction has p bits. -/
def HasBits (p num den : Nat) (e : Int) : Prop :=
  scaledDen den e * 2 ^ (p - 1) ≤ scaledNum num e ∧ scaledNum num e < scaledDen den e * 2 ^ p

/-- The exponent that the lengths of numerator and denominator suggest. -/
def lengthExponent (p num den : Nat) : Int := (Nat.log2 num : Int) - (Nat.log2 den : Int) - (p : Int) + 1

theorem quotientExponent_eq (p num den : Nat) :
    quotientExponent p num den =
      if scaledNum num (lengthExponent p num den) < scaledDen den (lengthExponent p num den) * 2 ^ (p - 1)
      then lengthExponent p num den - 1 else lengthExponent p num den := rfl

section
variable {p num den : Nat} (hp : 2 ≤ p) (hnum : 0 < num) (hden : 0 < den)
include hp hnum hden

/-- The suggested exponent is right or one too large. -/
theorem lengthExponent_bounds :
    scaledDen den (lengthExponent p num den) * 2 ^ (p - 1) ≤ 2 * scaledNum num (lengthExponent p num den) ∧
      scaledNum num (lengthExponent p num den) < scaledDen den (lengthExponent p num den) * 2 ^ p := by
  have he : lengthExponent p num den = (Nat.log2 num : Int) - (Nat.log2 den : Int) - (p : Int) + 1 := rfl
  generalize lengthExponent p num den = e at he ⊢
  have hlow : Nat.log2 num + 1 + (-e).toNat = Nat.log2 den + 1 + e.toNat + (p - 1) := by omega
  have hhigh : Nat.log2 num + 1 + (-e).toNat = Nat.log2 den + e.toNat + p := by omega
  have hnumLow : 2 ^ (Nat.log2 num + 1) ≤ 2 * num := by
    rw [Nat.pow_succ']
    exact Nat.mul_le_mul_left 2 (Nat.log2_self_le (Nat.ne_of_gt hnum))
  constructor
  · calc scaledDen den e * 2 ^ (p - 1)
      _ ≤ 2 ^ (Nat.log2 den + 1) * 2 ^ e.toNat * 2 ^ (p - 1) :=
        Nat.mul_le_mul_right _ (Nat.mul_le_mul_right _ (Nat.le_of_lt Nat.lt_log2_self))
      _ = 2 ^ (Nat.log2 num + 1) * 2 ^ (-e).toNat := by rw [← Nat.pow_add, ← Nat.pow_add, ← Nat.pow_add, hlow]
      _ ≤ 2 * num * 2 ^ (-e).toNat := Nat.mul_le_mul_right _ hnumLow
      _ = 2 * scaledNum num e := Nat.mul_assoc ..
  · calc scaledNum num e
      _ < 2 ^ (Nat.log2 num + 1) * 2 ^ (-e).toNat := Nat.mul_lt_mul_of_pos_right Nat.lt_log2_self (Nat.two_pow_pos _)
      _ = 2 ^ Nat.log2 den * 2 ^ e.toNat * 2 ^ p := by rw [← Nat.pow_add, ← Nat.pow_add, ← Nat.pow_add, hhigh]
      _ ≤ scaledDen den e * 2 ^ p :=
        Nat.mul_le_mul_right _ (Nat.mul_le_mul_right _ (Nat.log2_self_le (Nat.ne_of_gt hden)))

theorem quotientExponent_hasBits : HasBits p num den (quotientExponent p num den) := by
  obtain ⟨hlow, hhigh⟩ := lengthExponent_bounds hp hnum hden
  rw [quotientExponent_eq, HasBits]
  generalize lengthExponent p num den = e at hlow hhigh ⊢
  rw [two_pow_eq hp, Nat.mul_left_comm] at hhigh ⊢
  split
  · next hshort =>
    rcases scaled_succ num den (e - 1) with ⟨hn, hd⟩ | ⟨hn, hd⟩
    all_goals
      rw [Int.sub_add_cancel] at hn hd
    · rw [hn, ← hd]
      omega
    · rw [← hn]
      rw [hd, Nat.mul_assoc] at hlow hshort
      omega
  · next hlong => exact ⟨Nat.le_of_not_lt hlong, hhigh⟩

end

/-! ## The nearest integer -/

/-- q is an integer nearest to `n / d`, even where two are as near. -/
structure Nearest (q n d : Nat) : Prop where
  above : 2 * (d * q) ≤ 2 * n + d
  below : 2 * n ≤ 2 * (d * q) + d
  tie : 2 * (d * q) = 2 * n + d ∨ 2 * n = 2 * (d * q) + d → q % 2 = 0

theorem roundedQuotient_eq (num den : Nat) (e : Int) :
    roundedQuotient num den e =
      if 2 * (scaledNum num e % scaledDen den e) < scaledDen den e then scaledNum num e / scaledDen den e
      else if 2 * (scaledNum num e % scaledDen den e) > scaledDen den e then scaledNum num e / scaledDen den e + 1
      else scaledNum num e / scaledDen den e + scaledNum num e / scaledDen den e % 2 := rfl

theorem roundedQuotient_nearest (num : Nat) {den : Nat} (hden : 0 < den) (e : Int) :
    Nearest (roundedQuotient num den e) (scaledNum num e) (scaledDen den e) := by
  have hd := scaledDen_pos hden e
  rw [roundedQuotient_eq]
  generalize scaledNum num e = n at hd ⊢
  generalize scaledDen den e = d at hd ⊢
  have hdiv := Nat.div_add_mod n d
  have hmod := Nat.mod_lt n hd
  generalize n / d = q at hdiv ⊢
  generalize n % d = r at hdiv hmod ⊢
  have hstep : d * (q + 1) = d * q + d := Nat.mul_add_one ..
  split_ifs
  · exact ⟨by omega, by omega, by omega⟩
  · exact ⟨by omega, by omega, by omega⟩
  · rcases Nat.mod_two_eq_zero_or_one q with h | h
    · rw [h, Nat.add_zero]
      exact ⟨by omega, by omega, fun _ => h⟩
    · rw [h]
      exact ⟨by omega, by omega, fun _ => by omega⟩

/-- The nearest integer of a fraction whose integer part has p bits has p bits, or is `2 ^ p`. -/
theorem nearest_bounds {p q num den : Nat} {e : Int} (hden : 0 < den) (hbits : HasBits p num den e)
    (hq : Nearest q (scaledNum num e) (scaledDen den e)) : 2 ^ (p - 1) ≤ q ∧ q ≤ 2 ^ p := by
  obtain ⟨hlow, hhigh⟩ := hbits
  have hd := scaledDen_pos hden e
  have habove := hq.above
  have hbelow := hq.below
  constructor <;> by_contra hout
  · have := Nat.mul_le_mul_left (scaledDen den e) (Nat.succ_le_of_lt (Nat.lt_of_not_le hout))
    rw [Nat.mul_succ] at this
    omega
  · have := Nat.mul_le_mul_left (scaledDen den e) (Nat.succ_le_of_lt (Nat.lt_of_not_le hout))
    rw [Nat.mul_succ] at this
    omega

/-! ## The rounding -/

theorem roundFraction_eq (p : Nat) {num : Nat} (hnum : num ≠ 0) (den : Nat) :
    roundFraction p num den =
      if roundedQuotient num den (quotientExponent p num den) = 2 ^ p
      then { man := 2 ^ (p - 1), exp := quotientExponent p num den + 1 }
      else { man := roundedQuotient num den (quotientExponent p num den), exp := quotientExponent p num den } :=
  if_neg hnum

/-- The significand is the nearest to the scaled fraction, with p bits; where it is `2 ^ (p - 1)`, reached from below, it is within
a quarter. -/
structure Rounded (p man n d : Nat) : Prop where
  low : 2 ^ (p - 1) ≤ man
  high : man < 2 ^ p
  nearest : Nearest man n d
  quarter : man = 2 ^ (p - 1) → n < d * man → 4 * (d * man) ≤ 4 * n + d

section
variable {p num den : Nat} (hp : 2 ≤ p) (hnum : 0 < num) (hden : 0 < den)
include hp hnum hden

/-- The nearest integer is the significand, or it is `2 ^ p` and is halved. -/
theorem roundFraction_rounded :
    Rounded p (roundFraction p num den).man (scaledNum num (roundFraction p num den).exp)
      (scaledDen den (roundFraction p num den).exp) := by
  have hbits := quotientExponent_hasBits hp hnum hden
  have hnear := roundedQuotient_nearest num hden (quotientExponent p num den)
  obtain ⟨hlow, hhigh⟩ := nearest_bounds hden hbits hnear
  rw [roundFraction_eq p hnum.ne']
  generalize quotientExponent p num den = e at hbits hnear hlow hhigh ⊢
  split
  · next htop =>
    have hpow := two_pow_eq hp
    have hpos : 0 < 2 ^ (p - 1) := Nat.two_pow_pos _
    have hd := scaledDen_pos hden (e + 1)
    have hdouble : scaledDen den e * 2 ^ p = 2 * (scaledDen den e * 2 ^ (p - 1)) := by rw [hpow, Nat.mul_left_comm]
    obtain ⟨habove, hbelow, -⟩ := hnear
    rw [htop, hdouble] at habove hbelow
    have hquarter : 4 * (scaledDen den (e + 1) * 2 ^ (p - 1)) ≤ 4 * scaledNum num (e + 1) + scaledDen den (e + 1) ∧
        4 * scaledNum num (e + 1) ≤ 4 * (scaledDen den (e + 1) * 2 ^ (p - 1)) + scaledDen den (e + 1) := by
      rcases scaled_succ num den e with ⟨hn, hd'⟩ | ⟨hn, hd'⟩
      · rw [hd']
        omega
      · rw [hn, hd', Nat.mul_assoc]
        omega
    obtain ⟨hup, hdown⟩ := hquarter
    change Rounded p (2 ^ (p - 1)) (scaledNum num (e + 1)) (scaledDen den (e + 1))
    exact ⟨le_rfl, by omega, ⟨by omega, by omega, by omega⟩, fun _ _ => hup⟩
  · next htop =>
    refine ⟨hlow, Nat.lt_of_le_of_ne hhigh htop, hnear, fun heq hlt => ?_⟩
    obtain ⟨hge, -⟩ := hbits
    exact absurd (heq ▸ hge) (Nat.not_le_of_lt hlt)

end

theorem Flt.num_mul (x : Flt) (den : Nat) : x.num * den = scaledDen den x.exp * x.man := by
  rw [Flt.num, scaledDen]
  ring

theorem Flt.mul_den (x : Flt) (num : Nat) : num * x.den = scaledNum num x.exp := rfl

/-- Settles O49: the exponent gives the scaled fraction p bits, and the significand is its nearest integer. -/
theorem roundingIsToNearestEven : Obligations.RoundingIsToNearestEven := by
  intro p num den hp hnum hden
  obtain ⟨hlow, hhigh, ⟨habove, hbelow, htie⟩, hquarter⟩ := roundFraction_rounded hp hnum hden
  rw [Flt.num_mul, Flt.mul_den, Nat.mul_comm (2 ^ _) den, ← scaledDen]
  exact ⟨hlow, hhigh, by omega, fun h1 h2 => by have := hquarter h1 h2; omega, fun h => htie (by omega)⟩

end Sys2Proof.Machine
end

section
/-!
PROOFS. The mixer (R384, R410, R413): one sample a cycle; scaling a fraction by a power of two does not change its rounding, and
rounding a rounded number gives it back, so the model's operations are the formulas'; and the binary32 word of a sample.
-/

namespace Sys2Proof.Machine
open Sys2Proof.Statements

/-! ## Samples -/

theorem getElem?_apuSamples (c : Nat) (s : ApuState) (k : Nat) (h : k < c) :
    (apuSamples c s)[k]? = some (mixerSample (apuRun (k + 1) s)) := by
  induction c generalizing s k with
  | zero => exact absurd h (Nat.not_lt_zero k)
  | succ c ih =>
    rw [apuSamples, apuRun]
    cases k with
    | zero => rw [List.getElem?_cons_zero, apuRun]
    | succ k => rw [List.getElem?_cons_succ, ih (apuCycle s) k (Nat.lt_of_succ_lt_succ h)]

theorem mixerSample_of_silent {s : ApuState} (h1 : s.pulse1.len = 0) (h2 : s.pulse2.len = 0) (h3 : s.triangle.len = 0)
    (h4 : s.noise.len = 0) : mixerSample s = 0 := by
  have htriangle : triangleOut s.triangle = 0 := if_pos (.inl h3)
  have hnoise : noiseOut s.noise = 0 := if_pos (.inl h4)
  rw [mixerSample, pulseOut_of_silent (.inl h1), pulseOut_of_silent (.inl h2), htriangle, hnoise]
  rfl

/-- Settles O50, by induction on the run; silenced channels give 0 to a mixer that makes 0 of it. -/
theorem samplesPerCycleAndSilence : Obligations.SamplesPerCycleAndSilence :=
  ⟨fun c s => ⟨length_apuSamples c s, getElem?_apuSamples c s⟩, fun _ => mixerSample_of_silent⟩

/-! ## Roundings that agree -/

theorem log2_mul_two_pow {n : Nat} (h : n ≠ 0) (k : Nat) : Nat.log2 (n * 2 ^ k) = Nat.log2 n + k := by
  have hpos : n * 2 ^ k ≠ 0 := Nat.mul_ne_zero h (Nat.two_pow_pos k).ne'
  rw [Nat.log2_eq_iff hpos, Nat.add_right_comm, Nat.pow_add, Nat.pow_add]
  exact ⟨Nat.mul_le_mul_right _ (Nat.log2_self_le h), Nat.mul_lt_mul_of_pos_right Nat.lt_log2_self (Nat.two_pow_pos k)⟩

section
variable (num den k : Nat) (e : Int)

theorem scaledNum_mul : scaledNum (num * 2 ^ k) e = scaledNum num e * 2 ^ k := Nat.mul_right_comm ..

theorem scaledDen_mul : scaledDen (den * 2 ^ k) e = scaledDen den e * 2 ^ k := Nat.mul_right_comm ..

theorem roundedQuotient_mul : roundedQuotient (num * 2 ^ k) (den * 2 ^ k) e = roundedQuotient num den e := by
  have hpos := Nat.two_pow_pos k
  rw [roundedQuotient_eq, roundedQuotient_eq, scaledNum_mul, scaledDen_mul, Nat.mul_div_mul_right _ _ hpos,
    Nat.mul_mod_mul_right, ← Nat.mul_assoc]
  simp only [gt_iff_lt, Nat.mul_lt_mul_right hpos]

variable {den} (hden : 0 < den)
include hden

theorem quotientExponent_mul (p : Nat) (hnum : num ≠ 0) :
    quotientExponent p (num * 2 ^ k) (den * 2 ^ k) = quotientExponent p num den := by
  have hlength : lengthExponent p (num * 2 ^ k) (den * 2 ^ k) = lengthExponent p num den := by
    rw [lengthExponent, lengthExponent, log2_mul_two_pow hnum, log2_mul_two_pow hden.ne']
    omega
  rw [quotientExponent_eq, quotientExponent_eq, hlength, scaledNum_mul, scaledDen_mul, Nat.mul_right_comm]
  simp only [Nat.mul_lt_mul_right (Nat.two_pow_pos k)]

/-- Scaling a fraction by a power of two does not change its rounding. -/
theorem roundFraction_mul (p : Nat) : roundFraction p (num * 2 ^ k) (den * 2 ^ k) = roundFraction p num den := by
  by_cases hnum : num = 0
  · rw [hnum, Nat.zero_mul, roundFraction, roundFraction, if_pos rfl, if_pos rfl]
  · rw [roundFraction_eq p (Nat.mul_ne_zero hnum (Nat.two_pow_pos k).ne'), roundFraction_eq p hnum,
      quotientExponent_mul num k hden p hnum, roundedQuotient_mul num den k]

end

theorem Flt.den_pos (x : Flt) : 0 < x.den := Nat.two_pow_pos _

theorem Flt.num_pos {x : Flt} (h : 0 < x.man) : 0 < x.num := Nat.mul_pos h (Nat.two_pow_pos _)

/-- The significand has p bits. -/
def Flt.HasPrecision (p : Nat) (x : Flt) : Prop := 2 ^ (p - 1) ≤ x.man ∧ x.man < 2 ^ p

theorem roundFraction_hasPrecision {p num den : Nat} (hp : 2 ≤ p) (hnum : 0 < num) (hden : 0 < den) :
    (roundFraction p num den).HasPrecision p :=
  have h := roundFraction_rounded hp hnum hden
  ⟨h.low, h.high⟩

theorem Flt.HasPrecision.man_pos {p : Nat} {x : Flt} (h : x.HasPrecision p) : 0 < x.man :=
  Nat.lt_of_lt_of_le (Nat.two_pow_pos _) h.1

/-- Rounding a number of p bits to p bits gives it back. -/
theorem roundFraction_self {p : Nat} {x : Flt} (hp : 2 ≤ p) (h : x.HasPrecision p) : roundFraction p x.num x.den = x := by
  have hman := h.man_pos
  obtain ⟨hlow, hhigh⟩ := h
  have hlog : Nat.log2 x.man = p - 1 := (Nat.log2_eq_iff hman.ne').2 ⟨hlow, by rwa [Nat.sub_add_cancel (by omega)]⟩
  have hlength : lengthExponent p x.num x.den = x.exp := by
    rw [lengthExponent, Flt.num, Flt.den, Nat.log2_two_pow, log2_mul_two_pow hman.ne', hlog]
    omega
  have hden : 0 < scaledDen x.den x.exp := scaledDen_pos x.den_pos _
  have hnum : scaledNum x.num x.exp = scaledDen x.den x.exp * x.man := by
    rw [scaledNum, scaledDen, Flt.num, Flt.den]
    ring
  have hexp : quotientExponent p x.num x.den = x.exp := by
    rw [quotientExponent_eq, hlength, if_neg]
    rw [hnum]
    exact Nat.not_lt_of_le (Nat.mul_le_mul_left _ hlow)
  have hq : roundedQuotient x.num x.den x.exp = x.man := by
    rw [roundedQuotient_eq, hnum, Nat.mul_mod_right, Nat.mul_div_cancel_left _ hden, if_pos (by omega)]
  rw [roundFraction_eq p (Flt.num_pos hman).ne', hexp, hq, if_neg hhigh.ne]

/-- A natural number of at most 53 bits is a binary64 number. -/
theorem f64_natural {n : Nat} (h0 : 0 < n) (h : n < 2 ^ 53) : ∃ k, (f64 n 1).num = n * 2 ^ k ∧ (f64 n 1).den = 2 ^ k := by
  have hlog : Nat.log2 n < 53 := (Nat.log2_lt h0.ne').2 h
  obtain ⟨k, hk⟩ := Nat.exists_eq_add_of_le (Nat.le_of_lt_succ hlog)
  have hnum : (Flt.mk (n * 2 ^ k) (-k)).num = n * 2 ^ k := by simp [Flt.num]
  have hden : (Flt.mk (n * 2 ^ k) (-k)).den = 2 ^ k := by simp [Flt.den]
  have hbits : (Flt.mk (n * 2 ^ k) (-k)).HasPrecision 53 := by
    have hlow := Nat.mul_le_mul_right (2 ^ k) (Nat.log2_self_le h0.ne')
    have hhigh := Nat.mul_lt_mul_of_pos_right (Nat.lt_log2_self (n := n)) (Nat.two_pow_pos k)
    rw [← Nat.pow_add] at hlow hhigh
    rw [Nat.add_right_comm, ← hk] at hhigh
    rw [← hk] at hlow
    exact ⟨hlow, hhigh⟩
  have hself := roundFraction_self (by decide) hbits
  have hscale := roundFraction_mul n k Nat.one_pos 53
  rw [Nat.one_mul] at hscale
  rw [hnum, hden, hscale] at hself
  exact ⟨k, by rw [f64, hself, hnum], by rw [f64, hself, hden]⟩

/-! ## The groups -/

/-- Adding a natural number, as R410's formulas do. -/
theorem f64Add_natural (x : Flt) {n : Nat} (h0 : 0 < n) (h : n < 2 ^ 53) : f64Add x (f64 n 1) = roundedSum x n := by
  obtain ⟨k, hn, hd⟩ := f64_natural h0 h
  rw [f64Add, hn, hd, Nat.mul_right_comm, ← Nat.add_mul, f64, roundFraction_mul _ _ x.den_pos, roundedSum]

/-- Dividing a natural number. -/
theorem f64Div_natural (x : Flt) (hx : 0 < x.num) {n : Nat} (h0 : 0 < n) (h : n < 2 ^ 53) :
    f64Div (f64 n 1) x = roundFraction 53 (n * x.den) x.num := by
  obtain ⟨k, hn, hd⟩ := f64_natural h0 h
  rw [f64Div, hn, hd, Nat.mul_right_comm, Nat.mul_comm (2 ^ k), f64, roundFraction_mul _ _ hx]

/-- Adding 0 to a rounded number. -/
theorem f64Add_zero {x : Flt} (h : x.HasPrecision 53) : f64Add x Flt.zero = x := by
  have hnum : x.num * Flt.zero.den + Flt.zero.num * x.den = x.num := by simp [Flt.zero, Flt.num, Flt.den]
  have hden : x.den * Flt.zero.den = x.den := by simp [Flt.zero, Flt.den]
  rw [f64Add, hnum, hden, f64, roundFraction_self (by decide) h]

theorem mixPulses_of_sounding {p1 p2 : Nat} (h : 0 < p1 + p2) (hlt : p1 + p2 < 2 ^ 53) :
    mixPulses p1 p2 = roundedOver 9588 (roundedSum (roundFraction 53 8128 (p1 + p2)) 100) := by
  obtain ⟨k, hn, hd⟩ := f64_natural h hlt
  have hquotient : f64Div (f64 8128 1) (f64 (p1 + p2) 1) = roundFraction 53 8128 (p1 + p2) := by
    rw [f64Div_natural _ (hn ▸ Nat.mul_pos h (Nat.two_pow_pos k)) (by decide) (by decide), hn, hd, roundFraction_mul _ _ h]
  rw [mixPulses, if_neg h.ne', hquotient, f64Add_natural _ (by decide) (by decide)]
  rfl

/-- The sum of the triangle's and the noise's quotients has full precision where one of them is not silent. -/
theorem tndSum_hasPrecision {t n : Nat} (h : 0 < t + n) : (tndSum t n).HasPrecision 53 := by
  have hquotient : ∀ {m d : Nat}, 0 < m → 0 < d → 0 < (roundFraction 53 m d).num := fun hm hd =>
    Flt.num_pos (roundFraction_hasPrecision (by decide) hm hd).man_pos
  refine roundFraction_hasPrecision (by decide) ?_ (Nat.mul_pos (Flt.den_pos _) (Flt.den_pos _))
  rcases Nat.eq_zero_or_pos t with rfl | ht
  · exact Nat.add_pos_right _ (Nat.mul_pos (hquotient (by omega) (by decide)) (Flt.den_pos _))
  · exact Nat.add_pos_left (Nat.mul_pos (hquotient ht (by decide)) (Flt.den_pos _)) _

theorem mixTnd_of_sounding {t n : Nat} (h : 0 < t + n) :
    mixTnd t n 0 = roundedOver 15979 (roundedSum (roundFraction 53 (tndSum t n).den (tndSum t n).num) 100) := by
  have hbits := tndSum_hasPrecision h
  have hsum : f64Add (f64Add (f64 t 8227) (f64 n 12241)) (f64 0 22638) = tndSum t n := f64Add_zero hbits
  have hquotient : f64Div (f64 1 1) (tndSum t n) = roundFraction 53 (tndSum t n).den (tndSum t n).num := by
    rw [f64Div_natural _ (Flt.num_pos hbits.man_pos) (by decide) (by decide), Nat.one_mul]
  rw [mixTnd, if_neg (by omega)]
  dsimp only
  rw [hsum, hquotient, f64Add_natural _ (by decide) (by decide)]
  rfl

theorem mixerGroups : MixerGroups :=
  ⟨fun _ _ h1 h2 => ⟨fun h => if_pos h, fun h => mixPulses_of_sounding h (by omega)⟩,
    fun _ _ _ _ => ⟨fun h => if_pos (by omega), mixTnd_of_sounding⟩, fun _ _ _ _ => rfl⟩

/-! ## The word of a sample -/

/-- The word of a number in the normal range, as a number. -/
theorem toNat_toBinary32 {x : Flt} (hx : 0 < x.man) (hhigh : (roundFraction 24 x.num x.den).exp ≤ 104) :
    (toBinary32 x).toNat = ((roundFraction 24 x.num x.den).exp + 150).toNat * 2 ^ 23 +
      ((roundFraction 24 x.num x.den).man - 2 ^ 23) := by
  have hbits : (roundFraction 24 x.num x.den).HasPrecision 24 :=
    roundFraction_hasPrecision (by decide) (Flt.num_pos hx) x.den_pos
  have hman := hbits.man_pos
  obtain ⟨-, hlt⟩ := hbits
  rw [toBinary32, if_neg hman.ne', BitVec.toNat_ofNat, Nat.mod_eq_of_lt (by omega)]

theorem sampleIsBinary32 : SampleIsBinary32 := by
  refine ⟨rfl, fun x hx hlow hhigh => ?_, fun _ => rfl⟩
  have hword := toNat_toBinary32 hx hhigh
  obtain ⟨hmin, hmax⟩ : (roundFraction 24 x.num x.den).HasPrecision 24 :=
    roundFraction_hasPrecision (by decide) (Flt.num_pos hx) x.den_pos
  generalize roundFraction 24 x.num x.den = r at *
  refine ⟨?_, by omega, by omega⟩
  rw [getLsbD_eq_digit, decide_eq_false_iff_not]
  omega

/-- Settles O59: every operation of the model rounds the formula's fraction, scaled by a power of two; the word is the sum of its
exponent and fraction fields. -/
theorem mixerFormulas : Obligations.MixerFormulas := ⟨mixerGroups, sampleIsBinary32⟩

end Sys2Proof.Machine
end

section
/-!
PROOFS. The audio output (R411): cutting a stream into blocks, a block as bytes, and what a granted step hands over.
-/

namespace Sys2Proof.Machine
open Sys2Proof.Statements

/-! ## Blocks -/

/-- With fuel for the whole stream the cut leaves less than a block over. -/
theorem fullBlocks_cut {n : Nat} (hn : 0 < n) (k : Nat) (l : List (BitVec 32)) (hk : l.length ≤ k) :
    (∀ b ∈ fullBlocks k n l, b.length = n) ∧ ∃ rest, rest.length < n ∧ (fullBlocks k n l).flatten ++ rest = l := by
  induction k generalizing l with
  | zero => exact ⟨nofun, l, by omega, rfl⟩
  | succ k ih =>
    by_cases hshort : l.length < n
    · rw [fullBlocks, if_pos (.inr hshort)]
      exact ⟨nofun, l, hshort, rfl⟩
    · obtain ⟨hfull, rest, hrest, hcut⟩ := ih (l.drop n) (by rw [List.length_drop]; omega)
      rw [fullBlocks, if_neg (by omega)]
      refine ⟨List.forall_mem_cons.2 ⟨List.length_take_of_le (by omega), hfull⟩, rest, hrest, ?_⟩
      rw [List.flatten_cons, List.append_assoc, hcut, List.take_append_drop]

theorem blocksAreFull : BlocksAreFull := fun _ stream hn => fullBlocks_cut hn stream.length stream le_rfl

/-! ## Bytes -/

theorem length_blockBytes (block : List (BitVec 32)) : (blockBytes block).length = 4 * block.length := by
  induction block with
  | nil => rfl
  | cons w block ih =>
    rw [blockBytes, List.flatMap_cons, List.length_append, ← blockBytes, ih, List.length_cons, Nat.mul_add_one, Nat.add_comm]
    rfl

theorem extract_byte (w : BitVec 32) (i : Nat) : w.extractLsb' (8 * i) 8 = BitVec.ofNat 8 (w.toNat / 256 ^ i) := by
  rw [BitVec.extractLsb', Nat.shiftRight_eq_div_pow, Nat.pow_mul]

/-- A sample's bytes, the lowest first. -/
theorem getElem?_sampleBytes (w : BitVec 32) {i : Nat} (hi : i < 4) :
    (sampleBytes w)[i]? = some (BitVec.ofNat 8 (w.toNat / 256 ^ i)) := by
  rw [← extract_byte]
  match i, hi with
  | 0, _ | 1, _ | 2, _ | 3, _ => rfl

theorem getElem?_blockBytes (block : List (BitVec 32)) (k : Nat) (i : Nat) (hi : i < 4) :
    (blockBytes block)[4 * k + i]? = block[k]?.bind fun w => (sampleBytes w)[i]? := by
  induction block generalizing k with
  | nil => rfl
  | cons w block ih =>
    have hlen : (sampleBytes w).length = 4 := rfl
    rw [blockBytes, List.flatMap_cons]
    cases k with
    | zero => rw [List.getElem?_append_left (by omega), Nat.mul_zero, Nat.zero_add]; rfl
    | succ k => rw [List.getElem?_append_right (by omega), List.getElem?_cons_succ, ← ih, ← blockBytes, hlen]; congr 1; omega

theorem blocksAreLittleEndian : BlocksAreLittleEndian := by
  refine fun block => ⟨length_blockBytes block, fun k w hw i hi => ?_⟩
  rw [getElem?_blockBytes block k i hi, hw, Option.bind_some, getElem?_sampleBytes w hi]

/-! ## Steps -/

/-- What the host gets back is read off the samples joined to those before. -/
theorem grantReturns_of_joined {s : State} {before : List (BitVec 32)} (h : s.audio = s.out.samples.reverse ++ before) :
    grantReturns s = (s.out.frame,
      ((audioBlocks s.audio.reverse).drop (audioBlocks before.reverse).length).map blockBytes) := by
  rw [grantReturns, runBlocks, h, List.drop_left' (List.length_reverse), List.reverse_append, List.reverse_reverse]

theorem stepsHandOverTheirBlocks : StepsHandOverTheirBlocks := by
  intro s t hr hg h
  obtain ⟨buttons, queue, hstep⟩ := step_of_grantsStep hr hg
  obtain ⟨c, nmi, u, htouch, -, -, rfl⟩ := systemStep_effect (hstep.symm.trans h)
  obtain ⟨hcycles, -, -, -, -, -, -, -, -, -, haudio, -⟩ := htouch.surroundings
  have hjoined : (advanceDevices c (addCycles c { u with nmiPending := nmi })).audio = (apuSamples c u.apu).reverse ++ s.audio :=
    congrArg (_ ++ ·) haudio
  have hreturns := grantReturns_of_joined hjoined
  refine ⟨?_, ?_, congrArg Prod.fst hreturns, congrArg Prod.snd hreturns⟩
  · change u.cycles + c = s.cycles + (apuSamples c u.apu).length
    rw [length_apuSamples, hcycles]
  · rw [hjoined, List.reverse_append, List.reverse_reverse]
    rfl

/-- Settles O60: the cut by induction on the stream, the bytes by induction on the block; a granted step is a row of touches, which
leave the samples, and the devices' advance, which joins its own. -/
theorem audioBlocksAreHandedOver : Obligations.AudioBlocksAreHandedOver :=
  ⟨blocksAreFull, blocksAreLittleEndian, stepsHandOverTheirBlocks⟩

end Sys2Proof.Machine
end

section
/-!
PROOFS. The cycle costs (R456, R463): the table agrees opcode by opcode with the rows of base counts and the list of marked opcodes,
only branches have a branch's entry and condition, and the model's page predicate is `crossed`.
-/

namespace Sys2Proof.Machine
open Sys2Proof.Statements

/-! ## The table -/

/-- The base count of an entry. -/
def entryBase : Cost → Nat
  | .fixed n | .page n | .branch n => n
  | .unknown => 0

/-- The entry is marked p. -/
def entryMarked : Cost → Bool
  | .page _ => true
  | .fixed _ | .branch _ | .unknown => false

/-- The entry is a branch's. -/
def entryBranch : Cost → Bool
  | .branch _ => true
  | .fixed _ | .page _ | .unknown => false

/-- The two forms of R463's table agree at every opcode. -/
theorem standardCost_agrees (op : Byte) :
    baseCycles op = entryBase (standardCost op) ∧ (op ∈ pageMarked ↔ entryMarked (standardCost op) = true) := by
  revert op
  decide

/-- Only an instruction with a branch's entry is ever taken. -/
theorem not_taken_of_entry {i : Instr} (h : entryBranch (standardCost i.opcode) = false) (p : Byte) :
    taken i.mnemonic p = false := by
  cases i with
  | bcc | bcs | beq | bne | bmi | bpl | bvc | bvs =>
    dsimp only [Instr.opcode] at h
    exact absurd h (by decide)
  | _ => rfl

theorem branchTaken_eq_taken (i : Instr) (s : State) : branchTaken i s = taken i.mnemonic s.p := by
  rw [branchTaken]
  cases i.mnemonic <;> simp only [taken, flagC, flagZ, flagN, flagV, getLsbD_eq_pBit]

/-! ## Pages -/

theorem pageDiffers_eq_otherPage (a b : Addr) : pageDiffers a b = otherPage a b := by
  rw [pageDiffers, otherPage, ← toNat_hiByte, ← toNat_hiByte, Bool.eq_iff_iff, bne_iff_ne, bne_iff_ne, BitVec.toNat_ne_iff_ne]

theorem baseIndY_eq (b : Byte) (s : State) : baseIndY b s = BitVec.ofNat 16 (zeroPageWord s b.toNat) := by
  rw [← toNat_read16Zp, BitVec.ofNat_toNat, BitVec.setWidth_eq, baseIndY]

/-- Word by word the two predicates are one match; built as modules it has two matchers, which `rfl` identifies. -/
theorem pageCrossed_eq_crossed (i : Instr) (s : State) : pageCrossed i s = crossed i s := by
  simp only [pageCrossed, crossed, pageDiffers_eq_otherPage, eaAbsX, eaAbsY, eaIndY, baseIndY_eq, branchTarget, branchNext,
    wordOf_eq_word] <;> rfl

/-- Settles O24: by the entry of the opcode, whose base count and mark are the table's; only a branch is ever taken. -/
theorem cycleCostsWithPenalties : Obligations.CycleCostsWithPenalties := by
  intro i s htable
  obtain ⟨hbase, hmarked⟩ := standardCost_agrees i.opcode
  rw [cycleCost, costOf, htable, branchTaken_eq_taken, pageCrossed_eq_crossed, hbase]
  simp only [hmarked]
  cases hentry : standardCost i.opcode with
  | branch n => cases taken i.mnemonic s.p <;> cases crossed i s <;> simp [entryBase, entryMarked]
  | fixed n => simp [entryBase, entryMarked, not_taken_of_entry (congrArg entryBranch hentry)]
  | page n => cases crossed i s <;> simp [entryBase, entryMarked, not_taken_of_entry (congrArg entryBranch hentry)]
  | unknown => simp [entryBase, entryMarked, not_taken_of_entry (congrArg entryBranch hentry)]

end Sys2Proof.Machine
end

section
/-!
PROOFS. Power-up and reset (R414, R450 to R453): a power-up that completes is `powerUpState` with PC set; the NSF bootstrap byte by
byte; the state of reset meets the invariant.
-/

namespace Sys2Proof.Machine
open Sys2Proof.Statements

/-! ## Power-up -/

section
variable (before : State) (t : Byte) (d : Draws) {mw : MapperState × Windows}

/-- A video cartridge's power-up ends at the word at $FFFC, through the windows that the mapper left (R452). -/
theorem powerUp_nes {f : NesFile} (h : powerUpMapper (.nes f) = .next mw) :
    powerUp before (.nes f) t d = .next ((powerUpState before (.nes f) t d mw).setPc
      (word (prgRead f mw.2 0xFFFD) (prgRead f mw.2 0xFFFC))) := by
  have hread : ∀ a : Addr, 0x8000 ≤ a.toNat → memRead a (powerUpState before (.nes f) t d mw) =
      .next (prgRead f mw.2 a, powerUpState before (.nes f) t d mw) := fun a ha => memRead_cart_some ha rfl
  have hword : read16 resetVector (powerUpState before (.nes f) t d mw) =
      .next (word (prgRead f mw.2 0xFFFD) (prgRead f mw.2 0xFFFC), powerUpState before (.nes f) t d mw) := by
    rw [read16, hread _ (by decide), andThen_next, hread _ (by decide), andThen_next, wordOf_eq_word]
    rfl
  have hstart : setStartPc (powerUpState before (.nes f) t d mw) =
      andThen (read16 resetVector (powerUpState before (.nes f) t d mw)) fun r => .next (r.2.setPc r.1) := rfl
  rw [powerUp, h, andThen_next, hstart, hword, andThen_next]

/-- An NSF's power-up ends at the bootstrap (R453). -/
theorem powerUp_nsf {f : NsfFile} (h : powerUpMapper (.nsf f) = .next mw) :
    powerUp before (.nsf f) t d = .next ((powerUpState before (.nsf f) t d mw).setPc 0x5000) := by
  rw [powerUp, h, andThen_next]
  rfl

/-- Whatever PC it is given, the power-up state has every element's value of R451. -/
theorem powerUpState_poweredUp (c : Cartridge) (mw : MapperState × Windows) (pc : Addr) :
    PoweredUp before ((powerUpState before c t d mw).setPc pc) c t d := by
  have hbytes {n : Nat} (bs : List Byte) : ∀ k, k < n → (Memory.ofBytes n bs).read k = bs.getD k 0 :=
    fun _ => Memory.read_ofBytes bs
  refine ⟨rfl, rfl, rfl, rfl, rfl, rfl, rfl, rfl, rfl, rfl, rfl, rfl, hbytes d.ram, fun h => ?_, fun h => ?_,
    hbytes d.chrRam, ⟨rfl, rfl, rfl, rfl, rfl⟩, rfl, rfl, rfl⟩
  · exact if_neg (Bool.eq_false_iff.1 h)
  · exact ⟨_, if_pos h, hbytes d.prgRam⟩

end

/-- Settles O52: the mapper's fault is the power-up's; else the power-up is `powerUpState` with PC set. -/
theorem powerUpSetsEveryElement : Obligations.PowerUpSetsEveryElement := by
  intro before c t d
  refine ⟨fun e he => by rw [powerUp, he, andThen_fault], fun mw hmw => ?_⟩
  cases c with
  | nes f =>
    exact ⟨_, powerUp_nes before t d hmw, powerUpState_poweredUp before t d _ mw _, rfl, rfl,
      fun _ hf => by cases hf; rfl, nofun⟩
  | nsf f =>
    exact ⟨_, powerUp_nsf before t d hmw, powerUpState_poweredUp before t d _ mw _, rfl, rfl, nofun, fun _ _ => rfl⟩

/-! ## The NSF bootstrap -/

theorem length_bankPrefix (i : Nat) (bs : List Byte) : (bankPrefix i bs).length = 5 * bs.length := by
  induction bs generalizing i with
  | nil => rfl
  | cons b bs ih => simp only [bankPrefix, List.length_cons, ih]; omega

/-- The bank writes stand in order, five bytes each. -/
theorem bankPrefix_block (i : Nat) (bs : List Byte) (k : Nat) (h : k < bs.length) :
    ((bankPrefix i bs).drop (5 * k)).take 5 = [0xA9, bs[k], 0x8D, BitVec.ofNat 8 (0xF8 + (i + k)), 0x5F] := by
  induction bs generalizing i k with
  | nil => exact absurd h (Nat.not_lt_zero k)
  | cons b bs ih =>
    cases k with
    | zero => rfl
    | succ k =>
      rw [Nat.mul_succ, bankPrefix]
      exact (ih (i + 1) k (Nat.lt_of_succ_lt_succ h)).trans (by rw [Nat.add_right_comm i 1 k]; rfl)

/-- The program after its bank writes, with its spin at the given address. -/
def bootTail (f : NsfFile) (t : Byte) (spin : Addr) : List Byte :=
  [0xA9, t, 0x20, loByte f.init, hiByte f.init, 0x20, loByte f.play, hiByte f.play, 0x4C, loByte spin, hiByte spin]

theorem bootProgram_eq (f : NsfFile) (t : Byte) :
    bootProgram f t = (if hasBankPrefix f then bankPrefix 0 f.banks0.toList else []) ++ bootTail f t (spinAt f) := by
  simp only [bootProgram, bootTail, List.append_assoc, List.cons_append, List.nil_append]

theorem hasBankPrefix_iff (f : NsfFile) : hasBankPrefix f = true ↔ ∃ k, ∃ h : k < 8, f.banks0[k] ≠ 0 := by
  simp only [hasBankPrefix, List.any_eq_true, bne_iff_ne, List.mem_iff_getElem, Vector.length_toList, Vector.getElem_toList]
  constructor
  · rintro ⟨_, ⟨k, h, rfl⟩, hne⟩
    exact ⟨k, h, hne⟩
  · rintro ⟨k, h, hne⟩
    exact ⟨_, ⟨k, h, rfl⟩, hne⟩

section
variable {f : NsfFile} (t : Byte)

/-- With no initial bank the program is the tail alone. -/
theorem bootProgram_without_banks (h : hasBankPrefix f = false) :
    bootProgram f t = bootTail f t 0x5008 ∧ playCall f = 0x5005 ∧ spinAt f = 0x5008 := by
  have hlen : prefixLength f = 0 := if_neg (Bool.eq_false_iff.1 h)
  have hspin : spinAt f = 0x5008 := by rw [spinAt, hlen]; rfl
  exact ⟨by rw [bootProgram_eq, h, hspin]; rfl, by rw [playCall, hlen]; rfl, hspin⟩

/-- With an initial bank the tail follows the 40 bytes of the bank writes. -/
theorem bootProgram_with_banks (h : hasBankPrefix f = true) :
    bootProgram f t = bankPrefix 0 f.banks0.toList ++ bootTail f t 0x5030 ∧ playCall f = 0x502D ∧ spinAt f = 0x5030 := by
  have hlen : prefixLength f = 40 := if_pos h
  have hspin : spinAt f = 0x5030 := by rw [spinAt, hlen]; rfl
  exact ⟨by rw [bootProgram_eq, h, hspin]; rfl, by rw [playCall, hlen]; rfl, hspin⟩

end

/-- Settles O53: the tail alone, or the tail after five bytes for each bank. -/
theorem nsfBootstrapProgram : Obligations.NsfBootstrapProgram := by
  intro f t
  refine ⟨fun hzero => ?_, fun hbank => ?_⟩
  · have hnone : hasBankPrefix f = false :=
      Bool.eq_false_iff.2 fun e => have ⟨k, hk, hne⟩ := (hasBankPrefix_iff f).1 e; hne (hzero k hk)
    exact bootProgram_without_banks t hnone
  · obtain ⟨hprogram, hplay, hspin⟩ := bootProgram_with_banks t ((hasBankPrefix_iff f).2 hbank)
    have hlen : (bankPrefix 0 f.banks0.toList).length = 40 := by rw [length_bankPrefix, Vector.length_toList]
    refine ⟨?_, fun k hk => ?_, ?_, hplay, hspin⟩
    · rw [hprogram, List.length_append, hlen]
      rfl
    · have hblock := bankPrefix_block 0 f.banks0.toList k (by rwa [Vector.length_toList])
      rw [Nat.zero_add, Vector.getElem_toList] at hblock
      rw [hprogram, List.drop_append_of_le_length (by omega),
        List.take_append_of_le_length (by rw [List.length_drop]; omega), hblock]
    · rw [hprogram, List.drop_left' hlen]
      rfl

/-! ## Reset -/

/-- The blank cartridge is an NROM-256: its windows are the two banks, inside an image that lists no byte. -/
theorem reset_cartridge : mapperAgrees State.reset ∧ cartridgeSound State.reset :=
  ⟨.inr ⟨rfl, rfl, rfl⟩, by decide, by decide, .inr ⟨by decide, by decide⟩, rfl, rfl, rfl, rfl⟩

/-- Settles O57: no memory lists a byte, the PPU stands at (0, 0), the APU is `apuReset_ok`'s. -/
theorem resetMeetsInvariant : Obligations.ResetMeetsInvariant :=
  have hmemory : MemoryInv State.reset := ⟨⟨rfl, rfl⟩, nofun, rfl, ⟨rfl, rfl⟩, ⟨rfl, rfl⟩⟩
  have hppu : PpuInv State.reset := ⟨by decide, by decide, fun _ => rfl, nofun, nofun⟩
  have ⟨hmapper, hcartridge⟩ := reset_cartridge
  ⟨rfl, hmemory, hppu, .of_ok (apuReset_ok _) rfl rfl ⟨[], rfl⟩, hmapper, hcartridge⟩

end Sys2Proof.Machine
end
